-- ==== Sys2Proof/Word.lean ====
section
/-! DEFINITION. The word types of the DSPCPU: 32-bit registers and addresses, bytes, halfwords, the 64-bit counter. -/

namespace Sys2Proof

/-- The content of a general register and a memory address: 32 bits (00_scope.md R7, R30). -/
abbrev Word := BitVec 32

/-- The byte at one memory address (00_scope.md R7, R12). -/
abbrev Byte := BitVec 8

/-- The halfword `st16` stores (44_dmem.md R194). -/
abbrev Half := BitVec 16

/-- The width of the clock cycle counter CCCOUNT (10_state.md R45). -/
abbrev Dword := BitVec 64

/-- The number of a general register (30_encoding.md R101). -/
abbrev RegNo := Nat

end Sys2Proof
end

