-- ==== Sys2Proof/Machine/UnitState.lean ====
section
/-! DEFINITION. The state of the on-chip units and the events that reach them, as plain data (60_exceptions.md part 3). -/

namespace Sys2Proof.Machine

/-- Which of the two SDRAM buffers of a DMA unit (R331). -/
inductive Buffer where
  | one | two
deriving DecidableEq, Repr, Inhabited

/-- Capture modes of Video In (R260, R268). The source speaks of raw10 modes, in the plural, and does not say in what they
differ: `raw10` stands for each of them (DESIGN CHOICE, log 24). -/
inductive ViMode where
  | raw8 | raw10 | messagePassing
deriving DecidableEq, Repr, Inhabited

/-- Modes of the Enhanced Video Out (R280, R282, R287). -/
inductive EvoMode where
  | videoRefresh | dataStreaming | messagePassing
deriving DecidableEq, Repr, Inhabited

/-- The formats of memory-resident image data that the Enhanced Video Out accepts (R283). -/
inductive ImageFormat where
  | yuv422CoSited | yuv422Interspersed | yuv420
deriving DecidableEq, Repr, Inhabited

/-- A field of the frame (R290, R291). -/
inductive FrameField where
  | one | two
deriving DecidableEq, Repr, Inhabited

/-- How far the sending of data has come (R281, R287): nothing to send; the next edge of VO_CLK is the one before the first
byte; bytes are being sent; the last byte that was available is on the pins. -/
inductive SendPhase where
  | idle | starting | sending | exhausted
deriving DecidableEq, Repr, Inhabited

/-- The buffer that the Enhanced Video Out is emptying, the address of its next byte and the bytes left in it (R287,
R331). -/
structure Sending where
  active  : Buffer
  pointer : Word
  left    : Nat
  phase   : SendPhase
deriving DecidableEq, Repr, Inhabited

/-- The four conditions of a capture unit: buffer 1 full, buffer 2 full, OVERRUN, HBE (R245). One value says which
of them are set, enabled or acknowledged. -/
structure CaptureBits where
  buf1Full : Bool
  buf2Full : Bool
  overrun  : Bool
  hbe      : Bool
deriving DecidableEq, Repr, Inhabited

/-- The five conditions of the Enhanced Video Out (R285). -/
structure EvoBits where
  bfr1Empty : Bool
  bfr2Empty : Bool
  hbe       : Bool
  urun      : Bool
  ytr       : Bool
deriving DecidableEq, Repr, Inhabited

/-- The buffer a capture unit is filling: the copies of BASE and SIZE in use, the running address pointer and the
samples captured so far (R262, R266). `running = false`: capture has stopped on OVERRUN (R264). -/
structure Capture where
  active   : Buffer
  base     : Word
  size     : Word
  pointer  : Word
  captured : Nat
  running  : Bool
deriving DecidableEq, Repr, Inhabited

/-- Video In (R260 to R270). The source gives no width of a register (R50): BASE and SIZE are 32 bits (DESIGN CHOICE,
log 34). -/
structure VideoIn where
  mode          : ViMode
  base1         : Word
  base2         : Word
  size          : Word
  captureEnable : Bool
  enables       : CaptureBits
  flags         : CaptureBits
  capture       : Capture
  /-- A message is being received (R268). -/
  receiving     : Bool
  /-- A soft reset has been done and capture has not been enabled since (R268, R342). -/
  softReset     : Bool
deriving DecidableEq, Repr, Inhabited

/-- Enhanced Video Out (R280 to R293). Line, pixel and frame numbers have no width in the source; FREQUENCY, the buffer
registers and the pointers are 32 bits (DESIGN CHOICE, log 34). -/
structure VideoOut where
  mode            : EvoMode
  /-- The format of the image in memory (R283). -/
  format          : ImageFormat
  reset           : Bool
  voEnable        : Bool
  ltlEnd          : Bool
  enables         : EvoBits
  flags           : EvoBits
  evoEnable       : Bool
  syncStreaming   : Bool
  frequency       : Word
  /-- The two buffers of the data modes (R287, R331). -/
  base1           : Word
  base2           : Word
  size            : Word
  /-- The pointers that the CPU has set for the next field, and those of the field in transfer (R284). -/
  nextPointers    : List Word
  fieldPointers   : List Word
  frameLength     : Nat
  field2Start     : Nat
  framePreset     : Nat
  f1VideoLine     : Nat
  f2VideoLine     : Nat
  f1Olap          : Int
  f2Olap          : Int
  frameWidth      : Nat
  videoPixelStart : Nat
  /-- The counters: the line and pixel that are sent next (R290, R292). -/
  frameLine       : Nat
  framePixel      : Nat
  /-- Sync framing runs: VO_ENABLE has been set in a video-refresh mode and no software reset followed (R287). -/
  framing         : Bool
  /-- The field whose active image area has started, until a blanking line or a new frame follows (R284, log 29). -/
  areaField       : Option FrameField
  /-- The number in its image of the next pixel to send (R287). -/
  imagePosition   : Nat
  /-- The data sent at the last clock, none where there is none (R280, R287). -/
  data            : List Byte
  sending         : Sending
  /-- The pulse on VO_IO1 before the first valid data (R281). -/
  io1Pulse        : Bool
  /-- The Start condition on VO_IO1 of the message in progress has been sent (R282). -/
  startSent       : Bool
  /-- The End condition on VO_IO2 of the last message has been sent (R282). -/
  endSent         : Bool
  /-- Counter of the undefined image data sent (U6; the model's own field, log 28). -/
  undefinedSent   : Nat
deriving DecidableEq, Repr, Inhabited

/-- Audio In (R300 to R310). The source gives no width of a register (R50): BASE and SIZE are 32 bits (DESIGN CHOICE,
log 34). -/
structure AudioIn where
  base1            : Word
  base2            : Word
  size             : Word
  capEnable        : Bool
  sleepless        : Bool
  diagMode         : Bool
  enables          : CaptureBits
  flags            : CaptureBits
  capture          : Capture
  /-- The stereo sample input holding register (R305). -/
  inputRegister    : Option Word
  /-- The internal buffer memory, at most 64 bytes (R305). -/
  internalBuffer   : List Byte
  /-- In the power down state of the global power down mode (R254). -/
  poweredDown      : Bool
  /-- The unit's bit of the BLOCK_POWER_DOWN register (R255). -/
  blockPowerDown   : Bool
deriving DecidableEq, Repr, Inhabited

/-- The scaling parameters of one component (R316, R318). -/
structure IcpScale where
  increment     : Word
  startFraction : BitVec 16
deriving DecidableEq, Repr, Inhabited

/-- The parameter table of the Image Coprocessor (R316 to R321), one set of scaling parameters for each of Y, U and V
(R317, R318). `target` is where SDRAM output begins (log 32). -/
structure IcpParameters where
  y : IcpScale
  u : IcpScale
  v : IcpScale
  alpha             : BitVec 16
  overlayStartPixel : Nat
  overlayEndPixel   : Nat
  overlayStartLine  : Nat
  overlayEndLine    : Nat
  control           : BitVec 16
  target            : Word
deriving DecidableEq, Repr, Inhabited

/-- The images the Image Coprocessor works on, line by line; where they lie in memory is not in the source (log 32). -/
structure IcpImages where
  y       : List (List Byte)
  u       : List (List Byte)
  v       : List (List Byte)
  overlay : List (List (List Byte))
  mask    : List (List Bool)
deriving DecidableEq, Repr, Inhabited

/-- The Image Coprocessor (R316 to R323): what it has loaded, the output pixel it is at, the scaling counters in units of
1/65536 (R318), and the U and V values in the YUV to RGB converter (R322). -/
structure Icp where
  parameters : IcpParameters
  alpha1     : Byte
  alpha0     : Byte
  images     : IcpImages
  line       : Nat
  pixel      : Nat
  yCounter   : Int
  uCounter   : Int
  vCounter   : Int
  uHeld      : Byte
  vHeld      : Byte
  /-- The address of the next SDRAM output (R321). -/
  target     : Word
  /-- The last pixel sent to PCI (R321). -/
  pciPixel   : List Byte
deriving DecidableEq, Repr, Inhabited

/-- The direction of an XIO transfer (R326, R328). -/
inductive XioDirection where
  | read | write
deriving DecidableEq, Repr, Inhabited

/-- One XIO transfer: its byte, the PCI word that carries it (R327), the control signals made of the byte enables and
PCI_TRDY# (R328), and whether parity is generated or checked (R326). -/
structure XioTransfer where
  direction       : XioDirection
  byte            : Byte
  word            : Word
  iord            : Bool
  iowr            : Bool
  ds              : Bool
  trdy            : Bool
  parityGenerated : Bool
  parityChecked   : Bool
deriving DecidableEq, Repr, Inhabited

/-- The PCI-XIO bus (R325 to R328): whether it is active, the PCI words transferred so far, and the last transfer. -/
structure Xio where
  active : Bool
  words  : Nat
  last   : Option XioTransfer
deriving DecidableEq, Repr, Inhabited

/-- Registers of which the source gives the name and nothing else (R50, R73, R310). An MMIO access is a 32-bit
access (R72), so each is held as one word; no operation and no event of the model reads or writes one. -/
structure NamedRegisters where
  aiControl : Word
  aiFraming : Word
  aiFreq    : Word
  aiSerial  : Word
  aiStatus  : Word
  aoBase1   : Word
  aoBase2   : Word
  aoCc      : Word
  aoCfc     : Word
  aoControl : Word
  aoCtl     : Word
  aoFraming : Word
  aoFreq    : Word
  aoSerial  : Word
  aoSize    : Word
  aoStatus  : Word
  apertureControl : Word
deriving DecidableEq, Repr, Inhabited

/-- All units of the chip that the source describes. -/
structure Units where
  vi    : VideoIn
  evo   : VideoOut
  ai    : AudioIn
  icp   : Icp
  xio   : Xio
  named : NamedRegisters
deriving DecidableEq, Repr, Inhabited

/-- A write of VO_CTL: all its control fields, and an acknowledge bit for each condition (R283 to R287, R331). -/
structure VoCtlWrite where
  mode     : EvoMode
  format   : ImageFormat
  reset    : Bool
  voEnable : Bool
  ltlEnd   : Bool
  enables  : EvoBits
  acks     : EvoBits
deriving DecidableEq, Repr, Inhabited

/-- The fields of VO_FRAME, VO_FIELD and VO_LINE (R290 to R292). -/
structure VoTiming where
  frameLength     : Nat
  field2Start     : Nat
  framePreset     : Nat
  f1VideoLine     : Nat
  f2VideoLine     : Nat
  f1Olap          : Int
  f2Olap          : Int
  frameWidth      : Nat
  videoPixelStart : Nat
deriving DecidableEq, Repr, Inhabited

/-- What can reach a unit between two instructions: 32-bit MMIO accesses of software (R72; no such operation is in
the source), and what arrives at the unit's own pins, clocks and highway port. -/
inductive UnitEvent where
  -- Video In
  | viSetMode (m : ViMode)
  | viWriteBase1 (v : Word)
  | viWriteBase2 (v : Word)
  | viWriteSize (v : Word)
  | viWriteEnables (b : CaptureBits)
  | viSetCaptureEnable (on : Bool)
  | viAck (b : CaptureBits)
  | viSample (x : BitVec 10)
  | viHighwayOverflow
  | viMessageStart
  | viMessageByte (b : Byte)
  | viMessageEnd
  | viSoftReset
  -- Enhanced Video Out
  | evoWriteCtl (w : VoCtlWrite)
  | evoWriteEvoCtl (evoEnable syncStreaming : Bool)
  | evoWriteClock (frequency : Word)
  | evoWriteTiming (t : VoTiming)
  | evoWriteBase1 (v : Word)
  | evoWriteBase2 (v : Word)
  | evoWriteSize (v : Word)
  | evoSetPointers (l : List Word)
  /-- A positive edge of VO_CLK in a data mode (R280). -/
  | evoClock
  /-- The next pixel time of a video-refresh mode (R292). -/
  | evoPixel
  | evoImageEmpty (b : Buffer)
  | evoEndOfField
  | evoHighwayError
  | evoFrameEdge
  -- Audio In
  | aiWriteBase1 (v : Word)
  | aiWriteBase2 (v : Word)
  | aiWriteSize (v : Word)
  | aiWriteEnables (b : CaptureBits)
  | aiWriteCtl (capEnable sleepless diagMode : Bool)
  | aiAck (b : CaptureBits)
  /-- A stereo sample at the pins of the unit, and at the output pins of Audio Out (R308). -/
  | aiSample (x ao : Word)
  | aiHighwayGrant
  | aiSoftReset
  | aiBlockPowerDown (on : Bool)
  -- Image Coprocessor
  /-- The ICP takes its parameters from the table in memory (R316). -/
  | icpLoadTable (table : Word)
  /-- It takes parameters from a table whose content is given (log 32). -/
  | icpLoadParameters (p : IcpParameters)
  | icpLoadImages (g : IcpImages)
  | icpStartLine (line : Nat)
  | icpPixel
  -- PCI-XIO
  | xioBegin
  | xioTransfer (d : XioDirection) (b : Byte)
  | xioEnd
  -- the chip
  | enterGlobalPowerDown
deriving DecidableEq, Repr

end Sys2Proof.Machine
end

