-- ==== Sys2Proof/Config.lean ====
section
/-! DEFINITION. The configuration of a run (00_scope.md R7, R53) and the free values: constants without a body, for
every value the spec leaves open after an operation or event that goes on. -/

namespace Sys2Proof

/-- Byte order of data accesses, the field `bytesex` of PCSW (10_state.md R38). -/
inductive ByteOrder where
  | big | little
deriving DecidableEq, Repr, Inhabited

/-- The abstract rounding-mode field of PCSW (10_state.md R41, log 22). -/
inductive RoundingMode where
  | nearestEven | towardZero | towardPlusInf | towardMinusInf
deriving DecidableEq, Repr, Inhabited

/-- A range of byte addresses: `size` addresses from `base` on. -/
structure Region where
  base : Nat
  size : Nat
deriving DecidableEq, Repr

/-- The open parameters of R7 and R53 that are fixed for a run. N_REGS is the length of the register file
(State.regs); RM_DECODE is Config.rmDecode; the reset parameters are the values State.reset names. -/
structure Config where
  /-- R1_IS_ONE (R32, D3). -/
  r1IsOne              : Bool
  /-- MMIO_APERTURE (R72, D9), a set of addresses given as ranges. -/
  mmio                 : List Region
  /-- CACHE_BLOCK_SIZE (R7), a power of two. -/
  cacheBlockSize       : Nat
  /-- QUADAVG_LATENCY, QUADAVG_SLOTS (R120, D27). -/
  quadavgLatency       : Nat
  quadavgSlots         : List Nat
  /-- DSPUQUADADDUI_LATENCY, DSPUQUADADDUI_SLOTS (R120, D27). -/
  dspuquadadduiLatency : Nat
  dspuquadadduiSlots   : List Nat
deriving DecidableEq, Repr

/-- DESIGN CHOICE (log 11): what a read of register `r` inside a latency window returns, where `old` is what the
register file still holds. R353: "a value the source does not describe". Safe. -/
opaque Config.windowRead (draw : Nat) (r : RegNo) (old : Word) : Word

/-- DESIGN CHOICE (log 12): what a result becomes when two results for one register are in flight together (R353,
R355 (a)): the source does not say which the register ends with. Safe. -/
opaque Config.contestedResult (draw issued : Nat) (candidate : Word) : Word

/-- DESIGN CHOICE (log 13): the halfword a store leaves when an earlier store of the same instruction overlaps it
(R355 (b)): the source does not say which wins. Safe. -/
opaque Config.contestedHalf (draw : Nat) (address : Word) (candidate : Half) : Half

/-- DESIGN CHOICE (log 10): the bytes of memory, with their new values, that a misaligned `st16` of `value` at
`address` changes (R195: "the result of st16 is undefined"). Safe. -/
opaque Config.misalignedCells (draw : Nat) (address value : Word) : List (Word × Byte)

/-- DESIGN CHOICE (log 6): the non-stall and the stall cycles that the instruction takes (R45, R360). Safe. -/
opaque Config.nonStallCycles (draw : Nat) : Nat
opaque Config.stallCycles (draw : Nat) : Nat

/-- DESIGN CHOICE (log 24): the two bytes in which a raw10 sample is stored (R260). Safe. -/
opaque Config.raw10Bytes (x : BitVec 10) : Byte × Byte

/-- DESIGN CHOICE (log 24): the buffer in which Video In resumes on an acknowledge of buffer 1, buffer 2 or both
(R264: given by a lost figure; U17: a parameter). Safe. -/
opaque Config.viResumeBuffer (ack1 ack2 : Bool) : Machine.Buffer

/-- DESIGN CHOICE (log 30): the buffer in which Audio In resumes on an acknowledge of buffer 1, buffer 2 or both
(R307 does not say which). Safe. -/
opaque Config.aiResumeBuffer (ack1 ack2 : Bool) : Machine.Buffer

/-- DESIGN CHOICE (log 26): whether the first byte of a message word lies at its lowest address (R268). Safe. -/
opaque Config.viFirstByteLowest : Bool

/-- DESIGN CHOICE (log 27): what a soft reset of Video In leaves (R342: not in the source). Safe. -/
opaque Config.viAfterSoftReset (vi : Machine.VideoIn) : Machine.VideoIn

/-- DESIGN CHOICE (log 27): what a software reset of Audio In leaves, but for DIAGMODE (R344). Safe. -/
opaque Config.aiAfterSoftReset (ai : Machine.AudioIn) : Machine.AudioIn

/-- DESIGN CHOICE (log 9): what a unit reads from a byte of memory that nothing has written: the launch memory, which
the source does not give (R51). Safe. -/
opaque Config.launchByte (a : Word) : Byte

/-- DESIGN CHOICE (log 28): the buffer in which the Enhanced Video Out resumes after URUN on an acknowledge of buffer 1,
buffer 2 or both (R331 does not say which). Safe. -/
opaque Config.evoResumeBuffer (ack1 ack2 : Bool) : Machine.Buffer

/-- DESIGN CHOICE (log 28): the data sent for a pixel of the active image: the arrangement of the three formats and of the
overlay is in figures that are lost (R283, R286). `byteAt` reads SDRAM, `overlayAt` a packed overlay word. Safe. -/
opaque Config.imageData (format : Machine.ImageFormat) (pointers : List Word) (byteAt : Word → Byte)
  (overlayAt : Word → Word) (position : Nat) : List Byte

/-- DESIGN CHOICE (log 28): the active image data sent with VO_ENABLE off, which "is undefined" (R287, U6). Safe. -/
opaque Config.undefinedImageData (draw : Nat) : List Byte

/-- DESIGN CHOICE (log 29): the data sent outside the active image, with the SAV and EAV codes of a field (R291, R292;
the codes are not in the source). Safe. -/
opaque Config.blankingData (codes : Machine.FrameField) (lineActive : Bool) (pixel : Nat) : List Byte

/-- DESIGN CHOICE (log 32): the parameters that a table in memory at `table` holds; `byteAt` reads SDRAM (R316: the table's
layout is not in the source). Safe. -/
opaque Config.icpTable (byteAt : Word → Byte) (table : Word) : Machine.IcpParameters

/-- DESIGN CHOICE (log 32): which half of the Alpha field is Alpha 1 (R319). Safe. -/
opaque Config.alpha1IsHighHalf : Bool

/-- DESIGN CHOICE (log 32): the five-tap filter of a component at a fraction of 1/65536 (R321: its coefficients are not in
the source). Safe. -/
opaque Config.icpFilter (component : Nat) (taps : List Byte) (fraction : Int) : Byte

/-- DESIGN CHOICE (log 32): what the filter takes for an input pixel outside its line. Safe. -/
opaque Config.icpOutsidePixel (component line : Nat) (k : Int) : Byte

/-- DESIGN CHOICE (log 32): the bytes of a pixel in an output format, made of Y, U and V; `second` is true for the second
pixel of a pair (R321, R322: the conversion is not in the source). Safe. -/
opaque Config.icpConvert (output : Nat) (second : Bool) (y u v : Byte) : List Byte

/-- DESIGN CHOICE (log 32): the alpha value, and the alpha bit, in an overlay pixel (R321: layouts not in the source).
Safe. -/
opaque Config.overlayAlpha (pixel : List Byte) : Byte
opaque Config.overlayAlphaBit (pixel : List Byte) : Bool

/-- DESIGN CHOICE (log 32): the pixel that alpha blending makes of an output pixel and an overlay pixel, with or without
chroma keying (R319, R321: the arithmetic is not in the source). Safe. -/
opaque Config.icpBlend (chromaKeying : Bool) (overlayFormat output : Nat) (alpha : Byte) (image overlay : List Byte) :
  List Byte

/-- DESIGN CHOICE (log 33): the byte lane of a PCI word in which an XIO byte travels, and the other bytes of the word
(R327 gives neither). Safe. -/
opaque Config.xioLane : Fin 4
opaque Config.xioOtherBytes (draw : Nat) : Word

/-- DESIGN CHOICE (log 30): the word whose bytes, lowest first, are the four bytes of a stereo sample in the
internal buffer of Audio In (R305, R306 give their number only). Safe. -/
opaque Config.aiSampleLayout (x : Word) : Word

/-- RM_DECODE (R7, R53, D12): the rounding mode that a value of the rounding-mode bits of PCSW stands for. The encoding is
open and no rule uses it: State holds the mode itself (R41, log 22). Safe. -/
opaque Config.rmDecode (bits : Nat) : RoundingMode

end Sys2Proof
end

