-- ==== Sys2Proof/Syntax.lean ====
section
/-! DEFINITION. The operation record of 30_encoding.md R101 and the operations, one constructor per row of spec/opcode_table.json. -/

namespace Sys2Proof

/-- The operations that the source names without an operation code (R120, R215 to R222), and the pseudo operation
`dspiabs`, whose spelling before the scheduler has rewritten it is no record of R102 to R108 (R117, log 18): a record can
name one of them at the textual level only. -/
inductive TextualOp where
  | quadavg | dspuquadaddui | uclipi | hicycles | ifixieeeflags | writedpc | writepcsw | writespc
  | uleqi | ules | ulesi | ume8uu | umin | umul | umulm | uneq | uneqi | zex16 | zex8
  | alloc | allocd | allocr | allocx
  | dspiabs
deriving DecidableEq, Repr

/-- How a record says which operation it is: by the decimal operation code (R112), or by its mnemonic where the
source gives no code (R120). -/
inductive OpName where
  | code (n : Nat)
  | textual (m : TextualOp)
deriving DecidableEq, Repr

/-- The operation record of R101. `guard = none`: written without `IF rguard`. -/
structure OpRecord where
  op       : OpName
  guard    : Option RegNo
  src1     : Option RegNo
  src2     : Option RegNo
  dest     : Option RegNo
  modifier : Option Int
  slot     : Nat
deriving DecidableEq, Repr

/-- One operation, with the issue slot it occupies. One constructor per row of spec/opcode_table.json, in its order. -/
inductive Instr where
  /-- `[ IF rguard ] h_st16d(d) rsrc1 rsrc2` (R107, R198). -/
  | hSt16d (guard : Option RegNo) (src1 src2 : RegNo) (d : Int) (slot : Nat)
  /-- `[ IF rguard ] st16 rsrc1 rsrc2`, pseudo operation (R107, R116). -/
  | st16 (guard : Option RegNo) (src1 src2 : RegNo) (slot : Nat)
  /-- `[ IF rguard ] carry rsrc1 rsrc2 → rdest` (R130). -/
  | carry (guard : Option RegNo) (src1 src2 dest : RegNo) (slot : Nat)
  /-- `[ IF rguard ] mergemsb rsrc1 rsrc2 → rdest` (R132). -/
  | mergemsb (guard : Option RegNo) (src1 src2 dest : RegNo) (slot : Nat)
  /-- `[ IF rguard ] ume8ii rsrc1 rsrc2 → rdest` (R153). -/
  | ume8ii (guard : Option RegNo) (src1 src2 dest : RegNo) (slot : Nat)
  /-- `[ IF rguard ] h_dspiabs r0 rsrc2 → rdest` (R105, R150). -/
  | hDspiabs (guard : Option RegNo) (src1 src2 dest : RegNo) (slot : Nat)
  /-- `[ IF rguard ] dspiabs rsrc2 → rdest`, pseudo operation (R117, R152). -/
  | dspiabs (guard : Option RegNo) (src2 dest : RegNo) (slot : Nat)
  /-- `[ IF rguard ] ifixieee rsrc1 → rdest` (R170). -/
  | ifixieee (guard : Option RegNo) (src1 dest : RegNo) (slot : Nat)
  /-- `[ IF rguard ] cycles → rdest` (R140). -/
  | cycles (guard : Option RegNo) (dest : RegNo) (slot : Nat)
  /-- `uimm(n) → rdest`, never guarded (R108, R210). -/
  | uimm (n : Nat) (dest : RegNo) (slot : Nat)
  /-- `[ IF rguard ] prefd(d) rsrc1` (R106, R190). -/
  | prefd (guard : Option RegNo) (src1 : RegNo) (d : Int) (slot : Nat)
  /-- `quadavg rsrc1 rsrc2 -> rdest` (R155). -/
  | quadavg (guard : Option RegNo) (src1 src2 dest : RegNo) (slot : Nat)
  /-- `dspuquadaddui rsrc1 rsrc2 -> rdest` (R157). -/
  | dspuquadaddui (guard : Option RegNo) (src1 src2 dest : RegNo) (slot : Nat)
  /-- Named only (R221); its operand form is not in the source, as for every constructor below. -/
  | uclipi (slot : Nat)
  | hicycles (slot : Nat)
  | ifixieeeflags (slot : Nat)
  | writedpc (slot : Nat)
  | writepcsw (slot : Nat)
  | writespc (slot : Nat)
  | uleqi (slot : Nat)
  | ules (slot : Nat)
  | ulesi (slot : Nat)
  | ume8uu (slot : Nat)
  | umin (slot : Nat)
  | umul (slot : Nat)
  | umulm (slot : Nat)
  | uneq (slot : Nat)
  | uneqi (slot : Nat)
  | zex16 (slot : Nat)
  | zex8 (slot : Nat)
  | alloc (slot : Nat)
  | allocd (slot : Nat)
  | allocr (slot : Nat)
  | allocx (slot : Nat)
deriving DecidableEq, Repr

end Sys2Proof
end

