-- ==== Sys2Proof/Machine/Attributes.lean ====
section
/-! DEFINITION. The ATTRIBUTES of every operation with a rule (00_scope.md R11, 30_encoding.md R112,
70_reset_and_hazards.md R359), and the registers an operation names. -/

namespace Sys2Proof

/-- The function units of the ATTRIBUTES tables (R11). -/
inductive FunctionUnit where
  | alu | dspalu | falu | fcomp | const | dmem | dmemspec
deriving DecidableEq, Repr

/-- One ATTRIBUTES table (R11). `unit`, `code` and `latency` are `none` where the source has none ("n/a", "-", or no
table at all). -/
structure Attributes where
  unit    : Option FunctionUnit
  code    : Option Nat
  latency : Option Nat
  slots   : List Nat
deriving DecidableEq, Repr

/-- The instructions after which the result of an operation is visible (R350, log 15); an operation with no register result
has none. -/
def Attributes.resultLatency (a : Attributes) : Nat := a.latency.getD 0

/-- R112, R359: `h_st16d` and its pseudo operation `st16`. -/
def st16Attributes : Attributes := ⟨some .dmem, some 30, none, [4, 5]⟩
/-- R130. -/
def carryAttributes : Attributes := ⟨some .alu, some 45, some 1, [1, 2, 3, 4, 5]⟩
/-- R132. -/
def mergemsbAttributes : Attributes := ⟨some .alu, some 58, some 1, [1, 2, 3, 4, 5]⟩
/-- R153. -/
def ume8iiAttributes : Attributes := ⟨some .dspalu, some 64, some 2, [1, 3]⟩
/-- R150: `h_dspiabs` and its pseudo operation `dspiabs`. -/
def dspiabsAttributes : Attributes := ⟨some .dspalu, some 65, some 2, [1, 3]⟩
/-- R170. -/
def ifixieeeAttributes : Attributes := ⟨some .falu, some 121, some 3, [1, 4]⟩
/-- R140. -/
def cyclesAttributes : Attributes := ⟨some .fcomp, some 154, some 1, [3]⟩
/-- R210. -/
def uimmAttributes : Attributes := ⟨some .const, some 191, some 1, [1, 2, 3, 4, 5]⟩
/-- R190. -/
def prefdAttributes : Attributes := ⟨some .dmemspec, some 209, none, [5]⟩
/-- R155: no table in the source; latency and slots are parameters (R120, D27). -/
def quadavgAttributes (c : Config) : Attributes := ⟨none, none, some c.quadavgLatency, c.quadavgSlots⟩
/-- R157: no table in the source; latency and slots are parameters (R120, D27). -/
def dspuquadadduiAttributes (c : Config) : Attributes :=
  ⟨none, none, some c.dspuquadadduiLatency, c.dspuquadadduiSlots⟩

/-- The ATTRIBUTES of an operation (R359); `none` for an operation that is only named (R215 to R222). -/
def Instr.attributes (c : Config) : Instr → Option Attributes
  | .hSt16d .. => some st16Attributes
  | .st16 .. => some st16Attributes
  | .carry .. => some carryAttributes
  | .mergemsb .. => some mergemsbAttributes
  | .ume8ii .. => some ume8iiAttributes
  | .hDspiabs .. => some dspiabsAttributes
  | .dspiabs .. => some dspiabsAttributes
  | .ifixieee .. => some ifixieeeAttributes
  | .cycles .. => some cyclesAttributes
  | .uimm .. => some uimmAttributes
  | .prefd .. => some prefdAttributes
  | .quadavg .. => some (quadavgAttributes c)
  | .dspuquadaddui .. => some (dspuquadadduiAttributes c)
  | .uclipi _ | .hicycles _ | .ifixieeeflags _ | .writedpc _ | .writepcsw _ | .writespc _ => none
  | .uleqi _ | .ules _ | .ulesi _ | .ume8uu _ | .umin _ | .umul _ | .umulm _ | .uneq _ | .uneqi _ => none
  | .zex16 _ | .zex8 _ | .alloc _ | .allocd _ | .allocr _ | .allocx _ => none

/-- The mnemonic of an operation that the source names and does not define (R215 to R222). -/
def Instr.namedOnly : Instr → Option TextualOp
  | .uclipi _ => some .uclipi
  | .hicycles _ => some .hicycles
  | .ifixieeeflags _ => some .ifixieeeflags
  | .writedpc _ => some .writedpc
  | .writepcsw _ => some .writepcsw
  | .writespc _ => some .writespc
  | .uleqi _ => some .uleqi
  | .ules _ => some .ules
  | .ulesi _ => some .ulesi
  | .ume8uu _ => some .ume8uu
  | .umin _ => some .umin
  | .umul _ => some .umul
  | .umulm _ => some .umulm
  | .uneq _ => some .uneq
  | .uneqi _ => some .uneqi
  | .zex16 _ => some .zex16
  | .zex8 _ => some .zex8
  | .alloc _ => some .alloc
  | .allocd _ => some .allocd
  | .allocr _ => some .allocr
  | .allocx _ => some .allocx
  | .hSt16d .. | .st16 .. | .carry .. | .mergemsb .. | .ume8ii .. | .hDspiabs .. | .dspiabs .. | .ifixieee .. => none
  | .cycles .. | .uimm .. | .prefd .. | .quadavg .. | .dspuquadaddui .. => none

/-- The issue slot an operation occupies (R101). -/
def Instr.slot : Instr → Nat
  | .hSt16d _ _ _ _ k | .st16 _ _ _ k | .carry _ _ _ _ k | .mergemsb _ _ _ _ k | .ume8ii _ _ _ _ k => k
  | .hDspiabs _ _ _ _ k | .dspiabs _ _ _ k | .ifixieee _ _ _ k | .cycles _ _ k | .uimm _ _ k | .prefd _ _ _ k => k
  | .quadavg _ _ _ _ k | .dspuquadaddui _ _ _ _ k => k
  | .uclipi k | .hicycles k | .ifixieeeflags k | .writedpc k | .writepcsw k | .writespc k => k
  | .uleqi k | .ules k | .ulesi k | .ume8uu k | .umin k | .umul k | .umulm k | .uneq k | .uneqi k => k
  | .zex16 k | .zex8 k | .alloc k | .allocd k | .allocr k | .allocx k => k

/-- The guard register an operation is written with, if any (R10, R101). -/
def Instr.guard : Instr → Option RegNo
  | .hSt16d g _ _ _ _ | .st16 g _ _ _ | .carry g _ _ _ _ | .mergemsb g _ _ _ _ | .ume8ii g _ _ _ _ => g
  | .hDspiabs g _ _ _ _ | .dspiabs g _ _ _ | .ifixieee g _ _ _ | .cycles g _ _ | .prefd g _ _ _ => g
  | .quadavg g _ _ _ _ | .dspuquadaddui g _ _ _ _ => g
  | .uimm .. => none
  | .uclipi _ | .hicycles _ | .ifixieeeflags _ | .writedpc _ | .writepcsw _ | .writespc _ => none
  | .uleqi _ | .ules _ | .ulesi _ | .ume8uu _ | .umin _ | .umul _ | .umulm _ | .uneq _ | .uneqi _ => none
  | .zex16 _ | .zex8 _ | .alloc _ | .allocd _ | .allocr _ | .allocx _ => none

/-- The source registers an operation reads under a true guard, `src1` before `src2` (R54, R352 step 3). -/
def Instr.sources : Instr → List RegNo
  | .hSt16d _ a b _ _ | .st16 _ a b _ | .carry _ a b _ _ | .mergemsb _ a b _ _ | .ume8ii _ a b _ _ => [a, b]
  | .hDspiabs _ a b _ _ | .quadavg _ a b _ _ | .dspuquadaddui _ a b _ _ => [a, b]
  | .dspiabs _ b _ _ => [0, b]
  | .ifixieee _ a _ _ | .prefd _ a _ _ => [a]
  | .cycles .. | .uimm .. => []
  | .uclipi _ | .hicycles _ | .ifixieeeflags _ | .writedpc _ | .writepcsw _ | .writespc _ => []
  | .uleqi _ | .ules _ | .ulesi _ | .ume8uu _ | .umin _ | .umul _ | .umulm _ | .uneq _ | .uneqi _ => []
  | .zex16 _ | .zex8 _ | .alloc _ | .allocd _ | .allocr _ | .allocx _ => []

/-- The destination register of an operation, if its form has one (R54). -/
def Instr.dest : Instr → Option RegNo
  | .carry _ _ _ d _ | .mergemsb _ _ _ d _ | .ume8ii _ _ _ d _ | .hDspiabs _ _ _ d _ | .dspiabs _ _ d _ => some d
  | .ifixieee _ _ d _ | .cycles _ d _ | .uimm _ d _ | .quadavg _ _ _ d _ | .dspuquadaddui _ _ _ d _ => some d
  | .hSt16d .. | .st16 .. | .prefd .. => none
  | .uclipi _ | .hicycles _ | .ifixieeeflags _ | .writedpc _ | .writepcsw _ | .writespc _ => none
  | .uleqi _ | .ules _ | .ulesi _ | .ume8uu _ | .umin _ | .umul _ | .umulm _ | .uneq _ | .uneqi _ => none
  | .zex16 _ | .zex8 _ | .alloc _ | .allocd _ | .allocr _ | .allocx _ => none

/-- The register that holds the address of a 16-bit store (R194). -/
def Instr.storeAddressReg : Instr → Option RegNo
  | .hSt16d _ a _ _ _ | .st16 _ a _ _ => some a
  | .carry .. | .mergemsb .. | .ume8ii .. | .hDspiabs .. | .dspiabs .. | .ifixieee .. | .cycles .. | .uimm .. => none
  | .prefd .. | .quadavg .. | .dspuquadaddui .. => none
  | .uclipi _ | .hicycles _ | .ifixieeeflags _ | .writedpc _ | .writepcsw _ | .writespc _ => none
  | .uleqi _ | .ules _ | .ulesi _ | .ume8uu _ | .umin _ | .umul _ | .umulm _ | .uneq _ | .uneqi _ => none
  | .zex16 _ | .zex8 _ | .alloc _ | .allocd _ | .allocr _ | .allocx _ => none

end Sys2Proof
end

