-- ==== Sys2Proof/WellFormed.lean ====
section
/-! DEFINITION. When an operation and an instruction are well-formed (30_encoding.md R119). -/

namespace Sys2Proof

/-- The slot is among the issue slots of the operation (R119). An operation that is only named has no slot list. -/
def Instr.slotOk (c : Config) (i : Instr) : Bool :=
  match i.attributes c with
  | some a => a.slots.contains i.slot && 1 ≤ i.slot && i.slot ≤ 5
  | none => false

/-- Every register number is below N_REGS (R119). -/
def Instr.registersOk (nRegs : Nat) (i : Instr) : Bool :=
  i.guard.all (· < nRegs) && i.sources.all (· < nRegs) && i.dest.all (· < nRegs)

/-- No destination is `r0` or `r1` (R31, R32, R119). -/
def Instr.destOk (i : Instr) : Bool := i.dest.all (2 ≤ ·)

/-- Modifiers are in range: `prefd` -256..252 by 4 (R109), `uimm` 0..0xffffffff (R110). -/
def Instr.modifierOk : Instr → Bool
  | .prefd _ _ d _ => -256 ≤ d && d ≤ 252 && d % 4 == 0
  | .uimm n _ _ => n < 2 ^ 32
  | _ => true

/-- The checks of R119 whose failure is `ill_formed`. -/
def Instr.formOk (c : Config) (nRegs : Nat) (i : Instr) : Bool :=
  i.slotOk c && i.registersOk nRegs && i.destOk && i.modifierOk

/-- `h_dspiabs` has `src1 = 0` (R105, R151). -/
def Instr.firstArgumentOk : Instr → Bool
  | .hDspiabs _ a _ _ _ => a == 0
  | _ => true

/-- `h_st16d(d)` has `d = 0` (R111, R198). -/
def Instr.displacementOk : Instr → Bool
  | .hSt16d _ _ _ d _ => d == 0
  | _ => true

/-- A well-formed operation (R119). -/
def Instr.wf (c : Config) (nRegs : Nat) (i : Instr) : Bool :=
  i.formOk c nRegs && i.firstArgumentOk && i.displacementOk

/-- No two operations of an instruction occupy the same slot (R119). -/
def slotsDistinct (ops : List Instr) : Bool := decide ((ops.map Instr.slot).Nodup)

/-- A well-formed instruction: 0 to 5 well-formed operations in distinct slots (R119). -/
def instructionWf (c : Config) (nRegs : Nat) (ops : List Instr) : Bool :=
  ops.length ≤ 5 && slotsDistinct ops && ops.all (Instr.wf c nRegs)

/-- A legal configuration: results are visible to a later instruction only (R55: latency at least 1), and the cache
block size is a power of two (R7). -/
def Config.wf (c : Config) : Bool :=
  1 ≤ c.quadavgLatency && 1 ≤ c.dspuquadadduiLatency &&
    decide (c.cacheBlockSize = 2 ^ Nat.log2 c.cacheBlockSize)

end Sys2Proof
end

