-- ==== Sys2Proof/Decode.lean ====
section
/-! DEFINITION. The decoder, total on operation records (30_encoding.md R101 to R113), the encoder, and the packing
of a record into one number (DESIGN CHOICE, log 17: no binary format exists in the source, R100). -/

namespace Sys2Proof

/-- Why the decoder gives a record no operation (R113). -/
inductive Reject where
  /-- The operation code is not one of the nine of R112. Safe: nothing is executed. -/
  | unknownOperation
  /-- The fields present do not fit the form of the code (R119). Safe: nothing is executed. -/
  | illFormed
deriving DecidableEq, Repr

/-- Forms `G2D` (R102) and `G2D` with a fixed first source (R105): guard, two sources, destination. -/
def decodeG2D (mk : Option RegNo → RegNo → RegNo → RegNo → Nat → Instr) (r : OpRecord) : Except Reject Instr :=
  match r.src1, r.src2, r.dest, r.modifier with
  | some a, some b, some d, none => .ok (mk r.guard a b d r.slot)
  | _, _, _, _ => .error .illFormed

/-- The pseudo operation `dspiabs rsrc2 → rdest` by its name (R117, log 18); the scheduler makes it the code 65 record with
first source `r0`, and a code 65 record without a first source fits no form (R113). -/
def decodeDspiabs (r : OpRecord) : Except Reject Instr :=
  match r.src1, r.src2, r.dest, r.modifier with
  | none, some b, some d, none => .ok (.dspiabs r.guard b d r.slot)
  | _, _, _, _ => .error .illFormed

/-- Code 30 (R112): forms `G2M` and `G2` of R107; the record of the pseudo operation `st16` has no modifier
(log 18). -/
def decodeSt16 (r : OpRecord) : Except Reject Instr :=
  match r.src1, r.src2, r.dest, r.modifier with
  | some a, some b, none, some d => .ok (.hSt16d r.guard a b d r.slot)
  | some a, some b, none, none => .ok (.st16 r.guard a b r.slot)
  | _, _, _, _ => .error .illFormed

/-- Form `G1D` (R103). -/
def decodeIfixieee (r : OpRecord) : Except Reject Instr :=
  match r.src1, r.src2, r.dest, r.modifier with
  | some a, none, some d, none => .ok (.ifixieee r.guard a d r.slot)
  | _, _, _, _ => .error .illFormed

/-- Form `G0D` (R104). -/
def decodeCycles (r : OpRecord) : Except Reject Instr :=
  match r.src1, r.src2, r.dest, r.modifier with
  | none, none, some d, none => .ok (.cycles r.guard d r.slot)
  | _, _, _, _ => .error .illFormed

/-- Form `MD` (R108): no guard field; the modifier is unsigned (R110). -/
def decodeUimm (r : OpRecord) : Except Reject Instr :=
  match r.guard, r.src1, r.src2, r.dest, r.modifier with
  | none, none, none, some d, some n => if 0 ≤ n then .ok (.uimm n.toNat d r.slot) else .error .illFormed
  | _, _, _, _, _ => .error .illFormed

/-- Form `G1M` (R106). -/
def decodePrefd (r : OpRecord) : Except Reject Instr :=
  match r.src1, r.src2, r.dest, r.modifier with
  | some a, none, none, some d => .ok (.prefd r.guard a d r.slot)
  | _, _, _, _ => .error .illFormed

/-- A record that names its operation by mnemonic (R120). The form of an operation that is only named is not in the
source, so its operand fields are not looked at (R119: its refusal comes before its form). -/
def decodeTextual (m : TextualOp) (r : OpRecord) : Except Reject Instr :=
  match m with
  | .quadavg => decodeG2D .quadavg r
  | .dspuquadaddui => decodeG2D .dspuquadaddui r
  | .uclipi => .ok (.uclipi r.slot)
  | .hicycles => .ok (.hicycles r.slot)
  | .ifixieeeflags => .ok (.ifixieeeflags r.slot)
  | .writedpc => .ok (.writedpc r.slot)
  | .writepcsw => .ok (.writepcsw r.slot)
  | .writespc => .ok (.writespc r.slot)
  | .uleqi => .ok (.uleqi r.slot)
  | .ules => .ok (.ules r.slot)
  | .ulesi => .ok (.ulesi r.slot)
  | .ume8uu => .ok (.ume8uu r.slot)
  | .umin => .ok (.umin r.slot)
  | .umul => .ok (.umul r.slot)
  | .umulm => .ok (.umulm r.slot)
  | .uneq => .ok (.uneq r.slot)
  | .uneqi => .ok (.uneqi r.slot)
  | .zex16 => .ok (.zex16 r.slot)
  | .zex8 => .ok (.zex8 r.slot)
  | .alloc => .ok (.alloc r.slot)
  | .allocd => .ok (.allocd r.slot)
  | .allocr => .ok (.allocr r.slot)
  | .allocx => .ok (.allocx r.slot)
  | .dspiabs => decodeDspiabs r

/-- The operation a record stands for, selected by its operation code alone (R112); total (R113). -/
def decode (r : OpRecord) : Except Reject Instr :=
  match r.op with
  | .code 30 => decodeSt16 r
  | .code 45 => decodeG2D .carry r
  | .code 58 => decodeG2D .mergemsb r
  | .code 64 => decodeG2D .ume8ii r
  | .code 65 => decodeG2D .hDspiabs r
  | .code 121 => decodeIfixieee r
  | .code 154 => decodeCycles r
  | .code 191 => decodeUimm r
  | .code 209 => decodePrefd r
  | .code _ => .error .unknownOperation
  | .textual m => decodeTextual m r

/-- The record of an operation that is only named: its slot and nothing else. -/
def namedRecord (m : TextualOp) (slot : Nat) : OpRecord := ⟨.textual m, none, none, none, none, none, slot⟩

/-- The record of an operation (R101 to R108). -/
def encode : Instr → OpRecord
  | .hSt16d g a b d k => ⟨.code 30, g, some a, some b, none, some d, k⟩
  | .st16 g a b k => ⟨.code 30, g, some a, some b, none, none, k⟩
  | .carry g a b d k => ⟨.code 45, g, some a, some b, some d, none, k⟩
  | .mergemsb g a b d k => ⟨.code 58, g, some a, some b, some d, none, k⟩
  | .ume8ii g a b d k => ⟨.code 64, g, some a, some b, some d, none, k⟩
  | .hDspiabs g a b d k => ⟨.code 65, g, some a, some b, some d, none, k⟩
  | .dspiabs g b d k => ⟨.textual .dspiabs, g, none, some b, some d, none, k⟩
  | .ifixieee g a d k => ⟨.code 121, g, some a, none, some d, none, k⟩
  | .cycles g d k => ⟨.code 154, g, none, none, some d, none, k⟩
  | .uimm n d k => ⟨.code 191, none, none, none, some d, some n, k⟩
  | .prefd g a d k => ⟨.code 209, g, some a, none, none, some d, k⟩
  | .quadavg g a b d k => ⟨.textual .quadavg, g, some a, some b, some d, none, k⟩
  | .dspuquadaddui g a b d k => ⟨.textual .dspuquadaddui, g, some a, some b, some d, none, k⟩
  | .uclipi k => namedRecord .uclipi k
  | .hicycles k => namedRecord .hicycles k
  | .ifixieeeflags k => namedRecord .ifixieeeflags k
  | .writedpc k => namedRecord .writedpc k
  | .writepcsw k => namedRecord .writepcsw k
  | .writespc k => namedRecord .writespc k
  | .uleqi k => namedRecord .uleqi k
  | .ules k => namedRecord .ules k
  | .ulesi k => namedRecord .ulesi k
  | .ume8uu k => namedRecord .ume8uu k
  | .umin k => namedRecord .umin k
  | .umul k => namedRecord .umul k
  | .umulm k => namedRecord .umulm k
  | .uneq k => namedRecord .uneq k
  | .uneqi k => namedRecord .uneqi k
  | .zex16 k => namedRecord .zex16 k
  | .zex8 k => namedRecord .zex8 k
  | .alloc k => namedRecord .alloc k
  | .allocd k => namedRecord .allocd k
  | .allocr k => namedRecord .allocr k
  | .allocx k => namedRecord .allocx k

/-- What the scheduler makes of a pseudo operation (R116, R117); every other operation stays as it is. -/
def Instr.schedule : Instr → Instr
  | .st16 g a b k => .hSt16d g a b 0 k
  | .dspiabs g b d k => .hDspiabs g 0 b d k
  | i => i

/-- The textual operations in the order in which the packed record numbers them (log 17). -/
def textualOps : List TextualOp :=
  [.quadavg, .dspuquadaddui, .uclipi, .hicycles, .ifixieeeflags, .writedpc, .writepcsw, .writespc,
   .uleqi, .ules, .ulesi, .ume8uu, .umin, .umul, .umulm, .uneq, .uneqi, .zex16, .zex8,
   .alloc, .allocd, .allocr, .allocx, .dspiabs]

/-- The 16-bit operation field of a packed record: an operation code below 256 as it stands, a textual operation as
256 plus its place in `textualOps` (log 17). -/
def OpName.toField : OpName → Nat
  | .code n => n
  | .textual m => 256 + textualOps.idxOf m

/-- The operation a 16-bit operation field names. -/
def OpName.ofField (n : Nat) : OpName :=
  if n < 256 then .code n
  else match textualOps[n - 256]? with
    | some m => .textual m
    | none => .code n

/-- Bit `k` of the presence byte of a packed record. -/
def presenceBit (k : Nat) (present : Bool) : Nat := if present then 2 ^ k else 0

/-- Which of the optional fields of a record are present: guard, src1, src2, dest, modifier in bits 0 to 4. -/
def OpRecord.presence (r : OpRecord) : Nat :=
  presenceBit 0 r.guard.isSome + presenceBit 1 r.src1.isSome + presenceBit 2 r.src2.isSome +
    presenceBit 3 r.dest.isSome + presenceBit 4 r.modifier.isSome

/-- A modifier as 64 bits, two's complement. -/
def modifierField (m : Option Int) : Nat := (BitVec.ofInt 64 (m.getD 0)).toNat

/-- A record as one number of 160 bits (log 17): operation field in bits 15:0, presence in 23:16, slot in 31:24,
guard, src1, src2, dest in 16 bits each from bit 32 on, modifier in bits 159:96. -/
def OpRecord.pack (r : OpRecord) : Nat :=
  r.op.toField + 2 ^ 16 * r.presence + 2 ^ 24 * r.slot + 2 ^ 32 * r.guard.getD 0 + 2 ^ 48 * r.src1.getD 0 +
    2 ^ 64 * r.src2.getD 0 + 2 ^ 80 * r.dest.getD 0 + 2 ^ 96 * modifierField r.modifier

/-- The field of `width` bits from bit `lo` on. -/
def bitField (w lo width : Nat) : Nat := w / 2 ^ lo % 2 ^ width

/-- An optional field of a packed record: its value where bit `k` of the presence byte is set. -/
def optionalField (w k value : Nat) : Option Nat := if bitField w (16 + k) 1 = 1 then some value else none

/-- The record a packed number stands for. -/
def OpRecord.unpack (w : Nat) : OpRecord where
  op := OpName.ofField (bitField w 0 16)
  guard := optionalField w 0 (bitField w 32 16)
  src1 := optionalField w 1 (bitField w 48 16)
  src2 := optionalField w 2 (bitField w 64 16)
  dest := optionalField w 3 (bitField w 80 16)
  modifier := (optionalField w 4 (bitField w 96 64)).map fun n => (BitVec.ofNat 64 n).toInt
  slot := bitField w 24 8

/-- The packed word of an operation. -/
def encodeWord (i : Instr) : Nat := (encode i).pack

/-- The number of bits of a packed record. -/
def recordBits : Nat := 160

/-- The record in the low `nbits` bits of `w`, every bit above them zero. -/
def recordOfWord (nbits w : Nat) : OpRecord := OpRecord.unpack (w % 2 ^ nbits)

/-- The operation the decoder reads from the packed record `w` of `nbits` bits; `none` where it refuses. -/
def decodeTableWord (nbits w : Nat) : Option Instr :=
  match decode (recordOfWord nbits w) with
  | .ok i => some i
  | .error _ => none

end Sys2Proof
end

