-- ==== Sys2Proof/Machine/Memory.lean ====
section
/-! DEFINITION. Byte-addressed memory as a list of cells in one canonical form (10_state.md R49, 20_memory.md R70). -/

namespace Sys2Proof.Machine

/-- Memory: the bytes that have a value, addresses strictly rising. A byte that is not listed has no value: the source
gives no launch content (R51; log 9). -/
abbrev Memory := List Host.Cell

/-- The canonical form: addresses strictly rising and below 2^32. -/
abbrev Memory.wf (m : Memory) : Prop := m.Pairwise (fun x y => x.1 < y.1) ∧ ∀ x ∈ m, x.1 < 2 ^ 32

/-- The byte at an address; `none` where nothing has been written (log 9). -/
def Memory.read (m : Memory) (a : Nat) : Option Byte :=
  match m with
  | [] => none
  | (b, v) :: rest => if a = b then some v else Memory.read rest a

/-- `mem[a] ← v` (R12). -/
def Memory.write (m : Memory) (a : Nat) (v : Byte) : Memory :=
  match m with
  | [] => [(a, v)]
  | (b, u) :: rest => if a < b then (a, v) :: (b, u) :: rest else if a = b then (a, v) :: rest
      else (b, u) :: Memory.write rest a v

/-- The store of a list of bytes at the addresses paired with them, first to last. -/
def Memory.writeCells (m : Memory) (cells : List (Word × Byte)) : Memory :=
  cells.foldl (fun n c => n.write c.1.toNat c.2) m

/-- MemWrite (R18): the bytes stored from an address on, the address sums modulo 2^32 (D9a). -/
def Memory.writeBytes (m : Memory) (a : Word) (bytes : List Byte) : Memory :=
  m.writeCells (bytes.mapIdx fun k b => (a + BitVec.ofNat 32 k, b))

end Sys2Proof.Machine
end

