-- ==== Sys2Proof/Machine/State.lean ====
section
/-! DEFINITION. The state of the machine as plain data, its faults and refusals, and the state after reset (10_state.md). -/

namespace Sys2Proof.Machine

/-- The exception flags that `ifixieee` can set in PCSW (R42, R170). -/
structure FpFlags where
  ifz : Bool
  inx : Bool
  inv : Bool
deriving DecidableEq, Repr

/-- PCSW as the record of the fields the source names (R36 to R43); bit positions are not in the source. -/
structure Pcsw where
  cs      : Bool
  bytesex : ByteOrder
  mse     : Bool
  trpmse  : Bool
  rm      : RoundingMode
  ifz     : Bool
  inx     : Bool
  inv     : Bool
  ovf     : Bool
  unf     : Bool
deriving DecidableEq, Repr

/-- A result in flight (R55, R352). `issued` is the instruction that issued it (log 20). -/
structure InFlight where
  due    : Nat
  issued : Nat
  dest   : RegNo
  value  : Word
  flags  : FpFlags
deriving DecidableEq, Repr

/-- The checks of R352 steps 3 and 5, in the spec's own names (R362). A run goes on past all but the last (log 14). -/
inductive Breach where
  /-- A register that no operation has written is read (R33). -/
  | unwrittenRegister
  /-- A register with a result in flight is read or written (R353). -/
  | latencyHazard
  /-- Two operations of one instruction write one register (R355 (a)). -/
  | writeConflict
  /-- Two stores of one instruction overlap (R355 (b)). -/
  | storeConflict
  /-- A store to an odd address (R195). -/
  | misalignedStore
  /-- A 16-bit store into the MMIO aperture (R197): the store faults, so no state that goes on has it recorded. -/
  | mmioNon32
deriving DecidableEq, Repr

/-- The state of the machine. -/
structure State where
  /-- The configuration of the run (R53). -/
  cfg           : Config
  /-- The program: instructions, each a list of operation records (R35, R89, R100). -/
  program       : List (List OpRecord)
  /-- The program position (R35). -/
  ip            : Nat
  /-- The general register file; its length is N_REGS (R30). -/
  regs          : List Word
  /-- The registers that an operation has written (R33; the model's own field, log 1). -/
  written       : List RegNo
  /-- PCSW (R36). -/
  pcsw          : Pcsw
  /-- DPC and SPC (R44, log 5). -/
  dpc           : Word
  spc           : Word
  /-- CCCOUNT: master counter (R45) and slave register (R46). -/
  cccountMaster : Dword
  cccountSlave  : Dword
  /-- Exception processing is requested for the next interruptible jump (R47). -/
  excPending    : Bool
  /-- Results in flight, oldest issue first (R55). -/
  pending       : List InFlight
  /-- Memory (R49). -/
  mem           : Memory
  /-- Addresses the instruction in execution has stored to (the model's own field, log 20). -/
  stored        : List Word
  /-- Counter of the free values (the model's own field, log 11). -/
  draws         : Nat
  /-- The first check of R352 that has fired (the model's own field, log 14). -/
  breach        : Option Breach
  /-- Unit events that come before the next instruction (log 23). -/
  agenda        : List UnitEvent
  /-- The on-chip units (60_exceptions.md part 3). -/
  units         : Units
  /-- The global power down mode (R254). -/
  globalPowerDown : Bool
deriving DecidableEq, Repr

/-- What stops the machine with a fault. -/
inductive Fault where
  /-- Raised by `st16`, `h_st16d` and by nothing else: an aligned 16-bit store with a true guard touches the MMIO aperture,
  where "the result of an access by st16 ... is undefined" (R72, R197). Safe: the machine stops. -/
  | mmioNon32
  /-- Raised by ruledStep alone: FAULT(unwritten_register) of R33, past which step goes on (log 1, log 14). Safe. -/
  | unwrittenRegister
  /-- Raised by ruledStep alone: FAULT(misaligned_store) of R195, past which step goes on (log 10, log 14). Safe. -/
  | misalignedStore
deriving DecidableEq, Repr

/-- What the model gives no meaning, by name. -/
inductive Refusal where
  /-- Raised by exec for an instruction without a meaning in this model; no arm raises it. Safe. -/
  | notModelled (mnemonic : String)
  /-- Raised by step: an operation code outside the nine of R112 (R113). Safe. -/
  | unknownOperation
  /-- Raised by step and by the meanings of the operations that the source names and does not define
  (R215 to R222). Safe. -/
  | unspecifiedOperation (m : TextualOp)
  /-- Raised by step: the instruction is not well-formed (R119). Safe. -/
  | illFormed
  /-- Raised by step and `h_dspiabs`: a first argument other than `r0` (R151). Safe. -/
  | hDspiabsSrc1
  /-- Raised by step and `h_st16d`: a displacement other than 0 (R198). Safe. -/
  | hSt16dDisplacement
  /-- Raised by ruledStep alone: REFUSE(latency_hazard) of R353, past which step goes on (log 11, log 12, log 14). Safe. -/
  | latencyHazard
  /-- Raised by ruledStep alone: REFUSE(write_conflict) of R355 (a), past which step goes on (log 12, log 14). Safe. -/
  | writeConflict
  /-- Raised by ruledStep alone: REFUSE(store_conflict) of R355 (b), past which step goes on (log 13, log 14). Safe. -/
  | storeConflict
  /-- Raised by a write of VO_CTL with RESET and VO_ENABLE together (R287, U7). Safe. -/
  | voResetWithEnable
  /-- Raised by a write of VO_CTL that enables BFR2, URUN or YTR in message-passing mode (R285, U8). Safe. -/
  | voMessageModeIntens
  /-- Raised by a write of VO_LINE with an odd VIDEO_PIXEL_START (R292, U9). Safe. -/
  | voPixelStartOdd
  /-- Raised by a write of VI_SIZE in message-passing mode without a soft reset (R268, U11). Safe. -/
  | viSizeWithoutReset
  /-- Raised by an ICP control word with an overlay format or RGB output code not listed (R321, U15). Safe. -/
  | icpUnlistedFormat
deriving DecidableEq, Repr

/-- The configuration named for reset: R1_IS_ONE true (D3 suggests it, log 3), no MMIO aperture (log 7), the block size
of the source's examples (R7, log 8), the latency and slots of the `dspalu` unit (log 16). -/
def resetConfig : Config where
  r1IsOne := true
  mmio := []
  cacheBlockSize := 0x40
  quadavgLatency := 2
  quadavgSlots := [1, 3]
  dspuquadadduiLatency := 2
  dspuquadadduiSlots := [1, 3]

/-- PCSW as the model names it for reset (R51, log 4). -/
def resetPcsw : Pcsw where
  cs := false
  bytesex := .big
  mse := false
  trpmse := false
  rm := .nearestEven
  ifz := false
  inx := false
  inv := false
  ovf := false
  unf := false

/-- No condition of a capture unit. -/
def noCaptureBits : CaptureBits := ⟨false, false, false, false⟩

/-- No condition of the Enhanced Video Out. -/
def noEvoBits : EvoBits := ⟨false, false, false, false, false⟩

/-- A capture that has not been started. -/
def idleCapture : Capture := ⟨.one, 0, 0, 0, 0, false⟩

/-- The units as the model names them for reset: everything off and zero (R51, log 34). -/
def resetUnits : Units where
  vi := ⟨.raw8, 0, 0, 0, false, noCaptureBits, noCaptureBits, idleCapture, false, false⟩
  evo :=
    { mode := .videoRefresh, format := .yuv422CoSited, reset := false, voEnable := false, ltlEnd := false
      enables := noEvoBits, flags := noEvoBits, evoEnable := false, syncStreaming := false, frequency := 0
      base1 := 0, base2 := 0, size := 0, nextPointers := [], fieldPointers := []
      frameLength := 0, field2Start := 0, framePreset := 0, f1VideoLine := 0, f2VideoLine := 0, f1Olap := 0, f2Olap := 0
      frameWidth := 0, videoPixelStart := 0, frameLine := 0, framePixel := 0, framing := false, areaField := none
      imagePosition := 0
      data := [], sending := ⟨.one, 0, 0, .idle⟩, io1Pulse := false, startSent := false, endSent := false
      undefinedSent := 0 }
  ai := ⟨0, 0, 0, false, false, false, noCaptureBits, noCaptureBits, idleCapture, none, [], false, false⟩
  icp := ⟨⟨⟨0, 0⟩, ⟨0, 0⟩, ⟨0, 0⟩, 0, 0, 0, 0, 0, 0, 0⟩, 0, 0, ⟨[], [], [], [], []⟩, 0, 0, 0, 0, 0, 0, 0, 0, []⟩
  xio := ⟨false, 0, none⟩
  named := ⟨0, 0, 0, 0, 0, 0, 0, 0, 0, 0, 0, 0, 0, 0, 0, 0, 0⟩

/-- The machine right after reset (R51, R341): the slave CCCOUNT equals the master; 128 registers (log 2), nothing in flight
(log 41), the chip not in global power down mode (DESIGN CHOICE, log 31: in neither R51's table nor R254), and every value
the source does not state is named in a log entry. -/
def State.reset : State where
  cfg := resetConfig
  program := []
  ip := 0
  regs := List.replicate 128 0
  written := []
  pcsw := resetPcsw
  dpc := 0
  spc := 0
  cccountMaster := 0
  cccountSlave := 0
  excPending := false
  pending := []
  mem := []
  stored := []
  draws := 0
  breach := none
  agenda := []
  units := resetUnits
  globalPowerDown := false

end Sys2Proof.Machine
end

