-- ==== Sys2Proof/Machine/Flags.lean ====
section
/-! DEFINITION. The exception flags of PCSW (10_state.md R42, R43) and their computation by the conversion of
floating-point to integer (43_float.md R170 to R177). -/

namespace Sys2Proof.Machine

/-- No flag is set. -/
def noFlags : FpFlags := ⟨false, false, false⟩

/-- Flags are OR-ed into PCSW and never cleared (R43, R175, R356); OVF and UNF are not among them (R177). -/
def Pcsw.orFlags (p : Pcsw) (f : FpFlags) : Pcsw :=
  { p with ifz := p.ifz || f.ifz, inx := p.inx || f.inx, inv := p.inv || f.inv }

/-- The sign bit of a single-precision value (R23). -/
def fpSign (v : Word) : Bool := v.getLsbD 31
/-- The exponent field (R23). -/
def fpExp (v : Word) : Nat := (v.extractLsb' 23 8).toNat
/-- The fraction field (R23). -/
def fpFrac (v : Word) : Nat := (v.extractLsb' 0 23).toNat

/-- A denormalized number (R23, R171). -/
def isDenormal (v : Word) : Bool := fpExp v == 0 && fpFrac v != 0
/-- A NaN, quiet or signalling (R23, R173). -/
def isNan (v : Word) : Bool := fpExp v == 255 && fpFrac v != 0
/-- An infinity (R23). -/
def isInf (v : Word) : Bool := fpExp v == 255 && fpFrac v == 0

/-- The numerator of the value of a zero or normal number over `fpDen` (R23): the signed significand, scaled up where
the exponent is large. -/
def fpNum (v : Word) : Int :=
  let significand : Int := if fpExp v = 0 then 0 else (2 ^ 23 + fpFrac v : Nat)
  let scaled := significand * 2 ^ (fpExp v - 150)
  if fpSign v then -scaled else scaled

/-- The denominator of the value of a zero or normal number (R23): `(1 + frac/2^23) * 2^(exp-127)` is
`(2^23 + frac) / 2^(150-exp)`. -/
def fpDen (v : Word) : Nat := 2 ^ (150 - fpExp v)

/-- `round_to_integer` of the rational `num / den`, `den` positive (R172). -/
def roundRatio (mode : RoundingMode) (num : Int) (den : Nat) : Int :=
  let below := num / den
  let rest := num % den
  match mode with
  | .towardMinusInf => below
  | .towardPlusInf => if rest = 0 then below else below + 1
  | .towardZero => if rest = 0 ∨ 0 ≤ num then below else below + 1
  | .nearestEven =>
    if 2 * rest < den then below
    else if den < 2 * rest then below + 1
    else if below % 2 = 0 then below else below + 1

/-- The result and the flags of `ifixieee` for an operand and a rounding mode (R170 to R174). The rows for -INF and
for a value above the range are the spec's inference (D14, log 21). -/
def ifixieeeResult (mode : RoundingMode) (v : Word) : Word × FpFlags :=
  if isDenormal v then (0, ⟨true, false, false⟩)
  else if isNan v then (0, ⟨false, false, true⟩)
  else if isInf v then (if fpSign v then 0x80000000 else 0x7fffffff, ⟨false, false, true⟩)
  else
    let n := roundRatio mode (fpNum v) (fpDen v)
    if 2 ^ 31 - 1 < n then (0x7fffffff, ⟨false, false, true⟩)
    else if n < -2 ^ 31 then (0x80000000, ⟨false, false, true⟩)
    else (BitVec.ofInt 32 n, ⟨false, decide (n * fpDen v ≠ fpNum v), false⟩)

end Sys2Proof.Machine
end

