-- ==== Sys2Proof/Machine/Operands.lean ====
section
/-! DEFINITION. Operand forms: reading a register, the guard, byte lanes, addresses (10_state.md part 1, 30_encoding.md). -/

namespace Sys2Proof.Machine

/-- The registers whose value is fixed: `r0` reads 0 (R31), `r1` reads 1 under R1_IS_ONE (R32). -/
def hardwired (c : Config) (r : RegNo) : Option Word :=
  if r = 0 then some 0 else if r = 1 && c.r1IsOne then some 1 else none

/-- A result for `r`, issued by an earlier instruction, is in flight: `r` is inside a latency window (R353). -/
def State.inWindow (s : State) (r : RegNo) : Bool := s.pending.any fun p => p.dest == r && p.issued != s.ip

/-- The content of `r` that the register file holds; a number past the file reads 0 (never well-formed, R119). -/
def State.fileReg (s : State) (r : RegNo) : Word := s.regs.getD r 0

/-- `x[r]` as a source or guard (R15). Inside a latency window the value is free (R353, log 11). -/
def State.readReg (s : State) (r : RegNo) : Word :=
  match hardwired s.cfg r with
  | some v => v
  | none => if s.inWindow r then Config.windowRead s.draws r (s.fileReg r) else s.fileReg r

/-- The guard condition `G` (R10): no guard, or bit 0 of the guard register is 1. -/
def State.guardHolds (s : State) (g : Option RegNo) : Bool :=
  match g with
  | none => true
  | some r => (s.readReg r).getLsbD 0

/-- N_REGS (R7): the number of general registers. -/
def State.nRegs (s : State) : Nat := s.regs.length

/-- Byte `k` of a word, `v[8k+7 : 8k]` (R8, R156). -/
def byteOf (v : Word) (k : Nat) : Byte := v.extractLsb' (8 * k) 8

/-- The word of four bytes, the first in bits 31:24 (R156). -/
def wordOf (b3 b2 b1 b0 : Byte) : Word := b3 ++ b2 ++ b1 ++ b0

/-- An operation on each of the four byte lanes of two words (R155, R157). -/
def mapLanes (f : Byte → Byte → Byte) (x y : Word) : Word :=
  wordOf (f (byteOf x 3) (byteOf y 3)) (f (byteOf x 2) (byteOf y 2)) (f (byteOf x 1) (byteOf y 1))
    (f (byteOf x 0) (byteOf y 0))

/-- A register plus a displacement, modulo 2^32 (R109, D9a, log 40). -/
def displaced (a : Word) (d : Int) : Word := a + BitVec.ofInt 32 d

/-- The cache block that holds an address: `address & ~(cache_block_size - 1)` (R190). -/
def cacheBlock (c : Config) (a : Word) : Word := a &&& ~~~(BitVec.ofNat 32 c.cacheBlockSize - 1)

/-- The address lies in the MMIO aperture (R72). -/
def inMmio (c : Config) (a : Word) : Bool :=
  c.mmio.any fun r => decide (r.base ≤ a.toNat) && decide (a.toNat < r.base + r.size)

/-- The two bytes of a 16-bit store at `a`; one of them lies in the MMIO aperture (R72, R197). -/
def halfInMmio (c : Config) (a : Word) : Bool := inMmio c a || inMmio c (a + 1)

/-- The byte ranges of two 16-bit stores overlap (R355 (b)). -/
def halvesOverlap (a b : Word) : Bool := a == b || a + 1 == b || b + 1 == a

/-- The address is not a multiple of 2 (R78). -/
def misaligned (a : Word) : Bool := a.getLsbD 0

/-- The byte a unit reads from memory; one that nothing has written is as the launch memory has it (log 9). It sees every store
of an earlier instruction (DESIGN CHOICE, log 38), and reads memory in the MMIO aperture too (DESIGN CHOICE, log 7). -/
def unitByte (m : Memory) (a : Word) : Byte := (m.read a.toNat).getD (Config.launchByte a)

/-- The bytes of a halfword at rising addresses in a byte order (R74). -/
def halfBytes (o : ByteOrder) (v : Half) : List Byte :=
  match o with
  | .little => [v.extractLsb' 0 8, v.extractLsb' 8 8]
  | .big => [v.extractLsb' 8 8, v.extractLsb' 0 8]

end Sys2Proof.Machine
end

