-- ==== Sys2Proof/Machine/Ops.lean ====
section
/-! DEFINITION. The named operations over registers, results in flight, memory and the exception request, that the
meanings of the instructions share. -/

namespace Sys2Proof.Machine

/-- Go on with the next state of an outcome; a fault or refusal stays. -/
def andThen (o : Host.Outcome State Fault Refusal) (f : State → Host.Outcome State Fault Refusal) :
    Host.Outcome State Fault Refusal :=
  match o with
  | .next s => f s
  | .fault r => .fault r
  | .refused r => .refused r

/-- A result for `d` is in flight, from an earlier instruction or this one (R353, R355 (a)). -/
def State.inFlight (s : State) (d : RegNo) : Bool := s.pending.any fun p => p.dest == d

/-- The record of a result issued now with latency `latency` (R352 step 5 e). -/
def State.resultRecord (s : State) (d : RegNo) (latency : Nat) (v : Word) (f : FpFlags) : InFlight :=
  ⟨s.ip + latency, s.ip, d, v, f⟩

/-- The value of a record becomes free when it and another result contend for `d` (log 12). -/
def InFlight.contest (draw : Nat) (d : RegNo) (p : InFlight) : InFlight :=
  if p.dest = d then { p with value := Config.contestedResult draw p.issued p.value } else p

/-- Issue a result for `d` (R350, R352 step 5 e). Where another result for `d` is in flight, which of them the register
ends with is not in the source (R353, R355 (a)): each becomes a free value (log 12). -/
def State.issue (s : State) (d : RegNo) (latency : Nat) (v : Word) (f : FpFlags) : State :=
  let record := s.resultRecord d latency v f
  if s.inFlight d then { s with pending := (s.pending ++ [record]).map (InFlight.contest s.draws d) }
  else { s with pending := s.pending ++ [record] }

/-- The shared meaning of the operations with a destination: under a true guard the result is issued, under a false
one nothing changes (R10, R352). -/
def State.issueWhen (s : State) (g : Option RegNo) (d : RegNo) (a : Attributes) (v : Word) (f : FpFlags) :
    Host.Outcome State Fault Refusal :=
  .next (if s.guardHolds g then s.issue d a.resultLatency v f else s)

/-- One result reaches its register and PCSW (R352 step 1). -/
def State.commitResult (s : State) (p : InFlight) : State :=
  { s with
    regs := s.regs.set p.dest p.value
    written := if s.written.contains p.dest then s.written else p.dest :: s.written
    pcsw := s.pcsw.orFlags p.flags }

/-- Results reach their registers one after the other. -/
def State.commitResults (s : State) (ps : List InFlight) : State := ps.foldl State.commitResult s

/-- Step 1 of R352: the results due at this instruction are written, and are in flight no more. -/
def State.commit (s : State) : State :=
  { s.commitResults (s.pending.filter fun p => p.due == s.ip) with
    pending := s.pending.filter fun p => p.due != s.ip }

/-- The end of a run (R352): every remaining result is written in order of `due`. -/
def State.drain (s : State) : State :=
  { s.commitResults (s.pending.insertionSort fun p q => p.due ≤ q.due) with pending := [] }

/-- The Misaligned Store Exception (R195, R240): MSE is set, and if TRPMSE is 1 exception processing is requested for
the next interruptible jump. This is all the source says of taking an exception: control is not diverted (R19, R243),
and entry and return are not in the source (R244, R250; log 37). -/
def State.raiseMisalignedStore (s : State) : State :=
  { s with pcsw := { s.pcsw with mse := true }, excPending := s.excPending || s.pcsw.trpmse }

/-- The master CCCOUNT reaches the slave register: on processor reset and on a successful interruptible jump (R46).
No operation of the table is a jump (R244). -/
def State.sampleCccount (s : State) : State := { s with cccountSlave := s.cccountMaster }

/-- The master CCCOUNT counts the cycles of one instruction: stall cycles only if PCSW.CS is 1 (R37, R45); how many
cycles there are is free (R360, log 6). -/
def State.countCycles (s : State) : State :=
  { s with cccountMaster := s.cccountMaster + BitVec.ofNat 64 (Config.nonStallCycles s.draws) +
      (if s.pcsw.cs then BitVec.ofNat 64 (Config.stallCycles s.draws) else 0) }

/-- The halfword a store at `a` leaves: the data's low half (R194), or a free value where a store of the same
instruction overlaps it (R355 (b), log 13). Beside a misaligned store of slot 4 an aligned one of slot 5 that does not
overlap it is written after the free bytes, so that its own bytes are defined (DESIGN CHOICE, log 20). -/
def State.halfStored (s : State) (a v : Word) : Half :=
  if s.stored.any (halvesOverlap a) then Config.contestedHalf s.draws a (v.extractLsb' 0 16) else v.extractLsb' 0 16

/-- An aligned 16-bit store (R194): two bytes in the order of PCSW.bytesex, in this instruction (R354). They are in
memory at once, for a unit that reads it too (R199; DESIGN CHOICE, log 38). -/
def State.storeAligned (s : State) (a v : Word) : State :=
  { s with mem := s.mem.writeBytes a (halfBytes s.pcsw.bytesex (s.halfStored a v)), stored := s.stored ++ [a] }

/-- A misaligned 16-bit store (R195): the exception is raised and the run goes on (R243); what reaches memory is
undefined, so the bytes changed are free, in the MMIO aperture as outside it (log 10). -/
def State.storeMisaligned (s : State) (a v : Word) : State :=
  { s.raiseMisalignedStore with
    mem := s.mem.writeCells (Config.misalignedCells s.draws a v), stored := s.stored ++ [a] }

/-- A 16-bit store at `a` with a true guard (R194, R195, R197): a misaligned address is looked at before the MMIO aperture
(R249, R352 step 5 d). -/
def State.storeHalf (s : State) (a v : Word) : Host.Outcome State Fault Refusal :=
  if misaligned a then .next (s.storeMisaligned a v)
  else if halfInMmio s.cfg a then .fault .mmioNon32
  else .next (s.storeAligned a v)

/-- The shared meaning of the 16-bit store: nothing at all under a false guard (R196). -/
def State.storeHalfWhen (s : State) (g : Option RegNo) (a v : Word) : Host.Outcome State Fault Refusal :=
  if s.guardHolds g then s.storeHalf a v else .next s

/-- The data cache is asked for a block (R190): the hardware may drop the request, and the cache is not architectural
state (R48, R191, D24), so nothing changes (log 8). -/
def State.prefetch (s : State) (_block : Word) : State := s

end Sys2Proof.Machine
end

