-- ==== Sys2Proof/Machine/Checks.lean ====
section
/-! DEFINITION. The checks of the instruction step, in the order of 70_reset_and_hazards.md R352 and R362: which
instructions are refused, and which check a run has failed. -/

namespace Sys2Proof.Machine

/-- Step 3 of R352 for one register: the pending check, then the never-written check (R33, R353). A hard-wired
register passes (R31, R32). -/
def State.checkRead (s : State) (r : RegNo) : Option Breach :=
  if (hardwired s.cfg r).isSome then none
  else if s.inFlight r then some .latencyHazard
  else if s.written.contains r then none
  else some .unwrittenRegister

/-- Step 3 of R352 for one operation: guard, then `src1`, then `src2` if the guard holds (R362). -/
def State.checkReads (s : State) (i : Instr) : Option Breach :=
  i.guard.toList.findSome? s.checkRead <|>
    (if s.guardHolds i.guard then i.sources.findSome? s.checkRead else none)

/-- The operations with a true guard. -/
def State.active (s : State) (ops : List Instr) : List Instr := ops.filter fun i => s.guardHolds i.guard

/-- The destinations written by an instruction: the set W of R352 step 5. -/
def State.destinations (s : State) (ops : List Instr) : List RegNo := (s.active ops).filterMap Instr.dest

/-- The addresses an instruction stores to, in slot order (R352 step 5). -/
def State.storeAddresses (s : State) (ops : List Instr) : List Word :=
  ((s.active ops).filterMap Instr.storeAddressReg).map s.readReg

/-- Step 5 d of R352 for one address: misaligned before the MMIO aperture (R249). -/
def checkStore (c : Config) (a : Word) : Option Breach :=
  if misaligned a then some .misalignedStore else if halfInMmio c a then some .mmioNon32 else none

/-- Step 5 a to d of R352. -/
def State.checkWrites (s : State) (ops : List Instr) : Option Breach :=
  if ¬ (s.destinations ops).Nodup then some .writeConflict
  else if (s.destinations ops).any s.inFlight then some .latencyHazard
  else if ¬ (s.storeAddresses ops).Pairwise (fun a b => halvesOverlap a b = false) then some .storeConflict
  else (s.storeAddresses ops).findSome? (checkStore s.cfg)

/-- The first check of R352 that an instruction fails, in the order of R362: the reads of every operation in
ascending slot order, then the writes. -/
def State.firstBreach (s : State) (ops : List Instr) : Option Breach :=
  ops.findSome? s.checkReads <|> s.checkWrites ops

/-- Record the first breach of a run; it is never cleared (R21, log 14). -/
def State.noteBreach (s : State) (ops : List Instr) : State :=
  { s with breach := s.breach <|> s.firstBreach ops }

/-- The operations that a list of records holds, in ascending slot order (R352 step 3). -/
def operationsOf (recs : List OpRecord) : List Instr :=
  (recs.filterMap fun r => (decode r).toOption).insertionSort fun i j => i.slot ≤ j.slot

/-- A record is rejected for a reason. -/
def rejectedFor (e : Reject) (r : OpRecord) : Bool :=
  match decode r with
  | .ok _ => false
  | .error x => x == e

/-- The two refusals of R119 that follow every other defect (R362). -/
def lateRefusal (i : Instr) : Option Refusal :=
  if !i.firstArgumentOk then some .hDspiabsSrc1
  else if !i.displacementOk then some .hSt16dDisplacement
  else none

/-- Step 2 of R352 in the order of R362: an unknown operation code, an operation that is only named, every other defect
of R119, then the first argument of `h_dspiabs` and the displacement of `h_st16d`. -/
def checkInstruction (c : Config) (nRegs : Nat) (recs : List OpRecord) : Except Refusal (List Instr) :=
  let ops := operationsOf recs
  if recs.any (rejectedFor .unknownOperation) then .error .unknownOperation
  else match ops.findSome? Instr.namedOnly with
    | some m => .error (.unspecifiedOperation m)
    | none =>
      if recs.any (rejectedFor .illFormed) || !(recs.length ≤ 5) || !slotsDistinct ops ||
          !ops.all (Instr.formOk c nRegs) then .error .illFormed
      else match ops.findSome? lateRefusal with
        | some r => .error r
        | none => .ok ops

end Sys2Proof.Machine
end

