-- ==== Sys2Proof/Machine/Alu.lean ====
section
/-! DEFINITION. The operations of the `alu` unit: carry, mergemsb (40_alu.md). -/

namespace Sys2Proof.Machine

/-- R130: 1 where the exact unsigned sum is 2^32 or more, else 0. -/
def carryValue (x y : Word) : Word := if x.toNat + y.toNat < 2 ^ 32 then 0 else 1

/-- R132: the two most-significant bytes of the sources, interleaved. -/
def mergemsbValue (x y : Word) : Word := wordOf (byteOf x 3) (byteOf y 3) (byteOf x 2) (byteOf y 2)

/-- `[ IF rguard ] carry rsrc1 rsrc2 → rdest` (R130). -/
def execCarry (g : Option RegNo) (a b d : RegNo) (s : State) : Host.Outcome State Fault Refusal :=
  s.issueWhen g d carryAttributes (carryValue (s.readReg a) (s.readReg b)) noFlags

/-- `[ IF rguard ] mergemsb rsrc1 rsrc2 → rdest` (R132). -/
def execMergemsb (g : Option RegNo) (a b d : RegNo) (s : State) : Host.Outcome State Fault Refusal :=
  s.issueWhen g d mergemsbAttributes (mergemsbValue (s.readReg a) (s.readReg b)) noFlags

end Sys2Proof.Machine
end

