-- ==== Sys2Proof/Machine/Dmem.lean ====
section
/-! DEFINITION. Data-memory operations: h_st16d, st16, prefd (44_dmem.md). -/

namespace Sys2Proof.Machine

/-- `[ IF rguard ] h_st16d(d) rsrc1 rsrc2` (R194 to R198); only `d = 0` is admitted. -/
def execHSt16d (g : Option RegNo) (a b : RegNo) (d : Int) (s : State) : Host.Outcome State Fault Refusal :=
  if d = 0 then s.storeHalfWhen g (s.readReg a) (s.readReg b) else .refused .hSt16dDisplacement

/-- `[ IF rguard ] st16 rsrc1 rsrc2` (R194), the pseudo operation for `h_st16d(0)` (R116, R358). -/
def execSt16 (g : Option RegNo) (a b : RegNo) (s : State) : Host.Outcome State Fault Refusal :=
  s.storeHalfWhen g (s.readReg a) (s.readReg b)

/-- The block a `prefd` asks for (R190). -/
def prefdBlock (c : Config) (x : Word) (d : Int) : Word := cacheBlock c (displaced x d)

/-- `[ IF rguard ] prefd(d) rsrc1` (R190, R191): the block is asked for under a true guard; no state changes. -/
def execPrefd (g : Option RegNo) (a : RegNo) (d : Int) (s : State) : Host.Outcome State Fault Refusal :=
  .next (if s.guardHolds g then s.prefetch (prefdBlock s.cfg (s.readReg a) d) else s)

end Sys2Proof.Machine
end

