-- ==== Sys2Proof/Machine/DspAlu.lean ====
section
/-! DEFINITION. DSP and packed-byte operations: h_dspiabs, dspiabs, ume8ii, quadavg, dspuquadaddui (42_dspalu.md). -/

namespace Sys2Proof.Machine

/-- R150: the absolute value clipped to [0, 0x7fffffff]. -/
def dspiabsValue (y : Word) : Word :=
  if 0 ≤ y.toInt then y else if y.toInt = -2 ^ 31 then 0x7fffffff else BitVec.ofInt 32 (-y.toInt)

/-- R153: the absolute difference of two signed bytes. -/
def byteDistance (x y : Byte) : Nat := (x.toInt - y.toInt).natAbs

/-- R153: the sum of the four absolute differences. -/
def ume8iiValue (x y : Word) : Word :=
  BitVec.ofNat 32 (byteDistance (byteOf x 3) (byteOf y 3) + byteDistance (byteOf x 2) (byteOf y 2) +
    byteDistance (byteOf x 1) (byteOf y 1) + byteDistance (byteOf x 0) (byteOf y 0))

/-- R155: the average of two unsigned bytes, halves rounded up; the sum does not wrap. -/
def byteAverage (a w : Byte) : Byte := BitVec.ofNat 8 ((a.toNat + w.toNat + 1) / 2)

/-- R155. -/
def quadavgValue (x y : Word) : Word := mapLanes byteAverage x y

/-- R159: `uclipi(m, n)`, the clip of `m` to [0, n] (log 39). -/
def uclipi (m n : Int) : Int := if n < m then n else if m < 0 then 0 else m

/-- R157: an unsigned byte plus a signed byte, clipped to [0, 255]. -/
def byteClippedAdd (e t : Byte) : Byte := BitVec.ofInt 8 (uclipi ((e.toNat : Int) + t.toInt) 255)

/-- R157. -/
def dspuquadadduiValue (x y : Word) : Word := mapLanes byteClippedAdd x y

/-- `[ IF rguard ] h_dspiabs r0 rsrc2 → rdest` (R150); another first argument is refused (R151). -/
def execHDspiabs (g : Option RegNo) (a b d : RegNo) (s : State) : Host.Outcome State Fault Refusal :=
  if a = 0 then s.issueWhen g d dspiabsAttributes (dspiabsValue (s.readReg b)) noFlags else .refused .hDspiabsSrc1

/-- `[ IF rguard ] dspiabs rsrc2 → rdest` (R152), the pseudo operation for `h_dspiabs r0` (R117, R358). -/
def execDspiabs (g : Option RegNo) (b d : RegNo) (s : State) : Host.Outcome State Fault Refusal :=
  s.issueWhen g d dspiabsAttributes (dspiabsValue (s.readReg b)) noFlags

/-- `[ IF rguard ] ume8ii rsrc1 rsrc2 → rdest` (R153). -/
def execUme8ii (g : Option RegNo) (a b d : RegNo) (s : State) : Host.Outcome State Fault Refusal :=
  s.issueWhen g d ume8iiAttributes (ume8iiValue (s.readReg a) (s.readReg b)) noFlags

/-- `[ IF rguard ] quadavg rsrc1 rsrc2 -> rdest` (R155), with the latency parameter of D27. -/
def execQuadavg (g : Option RegNo) (a b d : RegNo) (s : State) : Host.Outcome State Fault Refusal :=
  s.issueWhen g d (quadavgAttributes s.cfg) (quadavgValue (s.readReg a) (s.readReg b)) noFlags

/-- `[ IF rguard ] dspuquadaddui rsrc1 rsrc2 -> rdest` (R157), with the latency parameter of D27. -/
def execDspuquadaddui (g : Option RegNo) (a b d : RegNo) (s : State) : Host.Outcome State Fault Refusal :=
  s.issueWhen g d (dspuquadadduiAttributes s.cfg) (dspuquadadduiValue (s.readReg a) (s.readReg b)) noFlags

end Sys2Proof.Machine
end

