-- ==== Sys2Proof/Machine/Float.lean ====
section
/-! DEFINITION. Floating-point conversion: ifixieee (43_float.md). -/

namespace Sys2Proof.Machine

/-- `[ IF rguard ] ifixieee rsrc1 → rdest` (R170): the result and its flags travel together and reach `rdest` and PCSW
at the same time (R175). -/
def execIfixieee (g : Option RegNo) (a d : RegNo) (s : State) : Host.Outcome State Fault Refusal :=
  s.issueWhen g d ifixieeeAttributes (ifixieeeResult s.pcsw.rm (s.readReg a)).1
    (ifixieeeResult s.pcsw.rm (s.readReg a)).2

end Sys2Proof.Machine
end

