-- ==== Sys2Proof/Machine/NamedOnly.lean ====
section
/-! DEFINITION. Operations that the source names and does not define (46_named_only.md): the spec refuses each of
them by name and forbids a meaning guessed from the mnemonic. -/

namespace Sys2Proof.Machine

/-- The refusal of R215 to R222: `REFUSE(unspecified_operation)` (log 36). -/
def unspecified (m : TextualOp) : Host.Outcome State Fault Refusal := .refused (.unspecifiedOperation m)

/-- `uclipi` (R221). -/
def execUclipi (_s : State) : Host.Outcome State Fault Refusal := unspecified .uclipi

/-- `hicycles` (R142, R219). -/
def execHicycles (_s : State) : Host.Outcome State Fault Refusal := unspecified .hicycles

/-- `ifixieeeflags` (R178, R220). -/
def execIfixieeeflags (_s : State) : Host.Outcome State Fault Refusal := unspecified .ifixieeeflags

/-- `writedpc` (R217). -/
def execWritedpc (_s : State) : Host.Outcome State Fault Refusal := unspecified .writedpc

/-- `writepcsw` (R218). -/
def execWritepcsw (_s : State) : Host.Outcome State Fault Refusal := unspecified .writepcsw

/-- `writespc` (R217). -/
def execWritespc (_s : State) : Host.Outcome State Fault Refusal := unspecified .writespc

/-- `uleqi` (R215). -/
def execUleqi (_s : State) : Host.Outcome State Fault Refusal := unspecified .uleqi

/-- `ules` (R215). -/
def execUles (_s : State) : Host.Outcome State Fault Refusal := unspecified .ules

/-- `ulesi` (R215). -/
def execUlesi (_s : State) : Host.Outcome State Fault Refusal := unspecified .ulesi

/-- `ume8uu` (R215). -/
def execUme8uu (_s : State) : Host.Outcome State Fault Refusal := unspecified .ume8uu

/-- `umin` (R215). -/
def execUmin (_s : State) : Host.Outcome State Fault Refusal := unspecified .umin

/-- `umul` (R215). -/
def execUmul (_s : State) : Host.Outcome State Fault Refusal := unspecified .umul

/-- `umulm` (R215). -/
def execUmulm (_s : State) : Host.Outcome State Fault Refusal := unspecified .umulm

/-- `uneq` (R215). -/
def execUneq (_s : State) : Host.Outcome State Fault Refusal := unspecified .uneq

/-- `uneqi` (R215). -/
def execUneqi (_s : State) : Host.Outcome State Fault Refusal := unspecified .uneqi

/-- `zex16` (R215). -/
def execZex16 (_s : State) : Host.Outcome State Fault Refusal := unspecified .zex16

/-- `zex8` (R215). -/
def execZex8 (_s : State) : Host.Outcome State Fault Refusal := unspecified .zex8

/-- `alloc` (R222). -/
def execAlloc (_s : State) : Host.Outcome State Fault Refusal := unspecified .alloc

/-- `allocd` (R222). -/
def execAllocd (_s : State) : Host.Outcome State Fault Refusal := unspecified .allocd

/-- `allocr` (R222). -/
def execAllocr (_s : State) : Host.Outcome State Fault Refusal := unspecified .allocr

/-- `allocx` (R222). -/
def execAllocx (_s : State) : Host.Outcome State Fault Refusal := unspecified .allocx

end Sys2Proof.Machine
end

