-- ==== Sys2Proof/Machine/Special.lean ====
section
/-! DEFINITION. Special-register and constant operations: cycles, uimm (41_special.md, 45_const.md). -/

namespace Sys2Proof.Machine

/-- `[ IF rguard ] cycles → rdest` (R140): the low 32 bits of the slave CCCOUNT. -/
def execCycles (g : Option RegNo) (d : RegNo) (s : State) : Host.Outcome State Fault Refusal :=
  s.issueWhen g d cyclesAttributes (s.cccountSlave.extractLsb' 0 32) noFlags

/-- `uimm(n) → rdest`, never guarded (R210). -/
def execUimm (n : Nat) (d : RegNo) (s : State) : Host.Outcome State Fault Refusal :=
  s.issueWhen none d uimmAttributes (BitVec.ofNat 32 n) noFlags

end Sys2Proof.Machine
end

