-- ==== Sys2Proof/Machine/Dispatch.lean ====
section
/-! DEFINITION. The meaning of every operation, one arm per constructor of Instr. -/

namespace Sys2Proof.Machine

def exec (i : Instr) (s : State) : Host.Outcome State Fault Refusal :=
  match i with
  | .hSt16d g a b d _ => Sys2Proof.Machine.execHSt16d g a b d s
  | .st16 g a b _ => Sys2Proof.Machine.execSt16 g a b s
  | .carry g a b d _ => Sys2Proof.Machine.execCarry g a b d s
  | .mergemsb g a b d _ => Sys2Proof.Machine.execMergemsb g a b d s
  | .ume8ii g a b d _ => Sys2Proof.Machine.execUme8ii g a b d s
  | .hDspiabs g a b d _ => Sys2Proof.Machine.execHDspiabs g a b d s
  | .dspiabs g b d _ => Sys2Proof.Machine.execDspiabs g b d s
  | .ifixieee g a d _ => Sys2Proof.Machine.execIfixieee g a d s
  | .cycles g d _ => Sys2Proof.Machine.execCycles g d s
  | .uimm n d _ => Sys2Proof.Machine.execUimm n d s
  | .prefd g a d _ => Sys2Proof.Machine.execPrefd g a d s
  | .quadavg g a b d _ => Sys2Proof.Machine.execQuadavg g a b d s
  | .dspuquadaddui g a b d _ => Sys2Proof.Machine.execDspuquadaddui g a b d s
  | .uclipi _ => Sys2Proof.Machine.execUclipi s
  | .hicycles _ => Sys2Proof.Machine.execHicycles s
  | .ifixieeeflags _ => Sys2Proof.Machine.execIfixieeeflags s
  | .writedpc _ => Sys2Proof.Machine.execWritedpc s
  | .writepcsw _ => Sys2Proof.Machine.execWritepcsw s
  | .writespc _ => Sys2Proof.Machine.execWritespc s
  | .uleqi _ => Sys2Proof.Machine.execUleqi s
  | .ules _ => Sys2Proof.Machine.execUles s
  | .ulesi _ => Sys2Proof.Machine.execUlesi s
  | .ume8uu _ => Sys2Proof.Machine.execUme8uu s
  | .umin _ => Sys2Proof.Machine.execUmin s
  | .umul _ => Sys2Proof.Machine.execUmul s
  | .umulm _ => Sys2Proof.Machine.execUmulm s
  | .uneq _ => Sys2Proof.Machine.execUneq s
  | .uneqi _ => Sys2Proof.Machine.execUneqi s
  | .zex16 _ => Sys2Proof.Machine.execZex16 s
  | .zex8 _ => Sys2Proof.Machine.execZex8 s
  | .alloc _ => Sys2Proof.Machine.execAlloc s
  | .allocd _ => Sys2Proof.Machine.execAllocd s
  | .allocr _ => Sys2Proof.Machine.execAllocr s
  | .allocx _ => Sys2Proof.Machine.execAllocx s

end Sys2Proof.Machine
end

