-- ==== Sys2Proof/Machine/Capture.lean ====
section
/-! DEFINITION. What the capture units Video In and Audio In have in common: conditions, acknowledges, the request line,
the exchange of two buffers (60_exceptions.md R247, R248, R331). -/

namespace Sys2Proof.Machine

/-- The other buffer. -/
def Buffer.other : Buffer → Buffer
  | .one => .two
  | .two => .one

/-- A 64-byte aligned value: the six LSBs are always 0 (R267, R300, U10). -/
def align64 (v : Word) : Word := v &&& ~~~(63#32)

/-- The full flag of a buffer. -/
def CaptureBits.full (f : CaptureBits) : Buffer → Bool
  | .one => f.buf1Full
  | .two => f.buf2Full

/-- A buffer's full flag is asserted (R263, R301). -/
def CaptureBits.setFull (f : CaptureBits) : Buffer → CaptureBits
  | .one => { f with buf1Full := true }
  | .two => { f with buf2Full := true }

/-- Each condition is cleared by a 1 in its own acknowledge bit and by nothing else (R247, R303). -/
def CaptureBits.acknowledge (f acks : CaptureBits) : CaptureBits where
  buf1Full := f.buf1Full && !acks.buf1Full
  buf2Full := f.buf2Full && !acks.buf2Full
  overrun := f.overrun && !acks.overrun
  hbe := f.hbe && !acks.hbe

/-- The interrupt request line: some enabled condition is set (R248, log 35). -/
def CaptureBits.requests (f enables : CaptureBits) : Bool :=
  f.buf1Full && enables.buf1Full || f.buf2Full && enables.buf2Full || f.overrun && enables.overrun ||
    f.hbe && enables.hbe

/-- The base register of a buffer. -/
def baseOf (base1 base2 : Word) : Buffer → Word
  | .one => base1
  | .two => base2

/-- The use of a buffer starts: its BASE and SIZE are copied (R266), the running pointer stands at its start. -/
def startBuffer (b : Buffer) (base1 base2 size : Word) : Capture :=
  ⟨b, baseOf base1 base2 b, size, baseOf base1 base2 b, 0, true⟩

/-- The running address pointer moves past captured data (R262). -/
def Capture.advance (c : Capture) (bytes samples : Nat) : Capture :=
  { c with pointer := c.pointer + BitVec.ofNat 32 bytes, captured := c.captured + samples }

/-- SIZE samples have been captured (R262). With a SIZE of 0, below the least buffer of R261, every sample fills the buffer
(DESIGN CHOICE, log 24). -/
def Capture.isFull (c : Capture) : Bool := c.size.toNat ≤ c.captured

/-- The active buffer is full: its flag is asserted and capture goes on in the other buffer, or, where that buffer has
not been acknowledged, OVERRUN is raised and capture stops (R263, R264, R303). -/
def switchBuffer (c : Capture) (f : CaptureBits) (base1 base2 size : Word) : Capture × CaptureBits :=
  let flags := f.setFull c.active
  if flags.full c.active.other then ({ c with running := false }, { flags with overrun := true })
  else (startBuffer c.active.other base1 base2 size, flags)

/-- After new data: the buffers are exchanged if the active one is full. -/
def settleBuffer (c : Capture) (f : CaptureBits) (base1 base2 size : Word) : Capture × CaptureBits :=
  if c.isFull then switchBuffer c f base1 base2 size else (c, f)

end Sys2Proof.Machine
end

