-- ==== Sys2Proof/Machine/AudioIn.lean ====
section
/-! DEFINITION. Audio In (60_exceptions.md R254 to R256, R300 to R310). -/

namespace Sys2Proof.Machine

/-- The single request line SOURCE 11 (R248, R302). -/
def AudioIn.requests (u : AudioIn) : Bool := u.flags.requests u.enables

/-- The six LSBs of AI_BASE1, AI_BASE2 and AI_SIZE are always 0 (R300). -/
def AudioIn.aligned (u : AudioIn) : AudioIn :=
  { u with base1 := align64 u.base1, base2 := align64 u.base2, size := align64 u.size }

/-- Powered: neither powered down with the chip (R254) nor by its block bit (R255). -/
def AudioIn.powered (u : AudioIn) : Bool := !u.poweredDown && !u.blockPowerDown

/-- Input sampling is on: capture enabled, powered, not stopped on OVERRUN (R307). -/
def AudioIn.samples (u : AudioIn) : Bool := u.capEnable && u.powered && u.capture.running

/-- What the serial-parallel converter takes in: the unit's own pins, or in diagnostic mode the pins of Audio Out (R308). -/
def AudioIn.converterInput (u : AudioIn) (x ao : Word) : Word := if u.diagMode then ao else x

/-- AI_CTL is written (R310): on a rising edge of CAP_ENABLE buffer 1 becomes active (R301). The
flags stay as they are (DESIGN CHOICE, log 30). -/
def AudioIn.writeCtl (u : AudioIn) (capEnable sleepless diagMode : Bool) : AudioIn :=
  let v := { u with capEnable := capEnable, sleepless := sleepless, diagMode := diagMode }
  if capEnable && !u.capEnable then
    { v with capture := startBuffer .one u.base1 u.base2 u.size, inputRegister := none, internalBuffer := [] }
  else v

/-- Acknowledges: OVERRUN is cleared by ACK_OVR only (R303, R307); a stopped capture resumes upon ACK1 or ACK2 (R307,
log 30). -/
def AudioIn.acknowledge (u : AudioIn) (acks : CaptureBits) : AudioIn :=
  let v := { u with flags := u.flags.acknowledge acks }
  if u.capEnable && !u.capture.running && (acks.buf1Full || acks.buf2Full) then
    { v with capture := startBuffer (Config.aiResumeBuffer acks.buf1Full acks.buf2Full) u.base1 u.base2 u.size }
  else v

/-- The four bytes of a stereo 16-bit sample in the internal buffer (R305, R306, log 30). -/
def audioSampleBytes (x : Word) : List Byte :=
  [byteOf (Config.aiSampleLayout x) 0, byteOf (Config.aiSampleLayout x) 1, byteOf (Config.aiSampleLayout x) 2,
   byteOf (Config.aiSampleLayout x) 3]

/-- The 64 bytes of internal buffer memory are full (R305). -/
def AudioIn.internalFull (u : AudioIn) : Bool := 64 ≤ u.internalBuffer.length

/-- A stereo sample arrives (R305): into the internal buffer, or into the input register while that buffer waits to be
written, or, with both full, it is lost and HBE is set (R307). -/
def AudioIn.sample (u : AudioIn) (x : Word) : AudioIn :=
  if u.samples then
    if !u.internalFull then { u with internalBuffer := u.internalBuffer ++ audioSampleBytes x }
    else match u.inputRegister with
      | none => { u with inputRegister := some x }
      | some _ => { u with flags := { u.flags with hbe := true } }
  else u

/-- The highway writes the full internal buffer to SDRAM as one 64-byte request, 16 samples (R305, R306); the input
register moves into the buffer, and the SDRAM buffers are exchanged when full (R301, R303). The MMIO aperture is memory to it
(DESIGN CHOICE, log 7). -/
def AudioIn.highwayGrant (u : AudioIn) (m : Memory) : AudioIn × Memory :=
  if u.samples && u.internalFull then
    let settled := settleBuffer (u.capture.advance 64 16) u.flags u.base1 u.base2 u.size
    ({ u with
        capture := settled.1
        flags := settled.2
        internalBuffer := u.internalBuffer.drop 64 ++ (u.inputRegister.map audioSampleBytes).getD []
        inputRegister := none },
      m.writeBytes u.capture.pointer (u.internalBuffer.take 64))
  else (u, m)

/-- A software reset clears DIAGMODE (R309, R344); what else it clears is not in the source (log 27). -/
def AudioIn.softResetDone (u : AudioIn) : AudioIn :=
  { (Config.aiAfterSoftReset u).aligned with diagMode := false }

/-- Global power down: the unit powers down unless SLEEPLESS is set (R254); entered with SLEEPLESS set, it powers up a unit
that an earlier one left powered down. Powered down, it keeps its state and its registers can be written (DESIGN CHOICE,
log 31). -/
def AudioIn.globalPowerDown (u : AudioIn) : AudioIn := { u with poweredDown := !u.sleepless }

end Sys2Proof.Machine
end

