-- ==== Sys2Proof/Machine/Icp.lean ====
section
/-! DEFINITION. Image Coprocessor: parameter table, control word and the production of output pixels (60_exceptions.md R316
to R323). -/

namespace Sys2Proof.Machine

/-! ### Parameters -/

/-- R316: the scaling increment, Input Width / Output Width times 65536 as a 32-bit integer (log 32: the conversion
drops the fraction). -/
def icpIncrement (inputWidth outputWidth : Nat) : Word := BitVec.ofNat 32 (inputWidth * 65536 / outputWidth)

/-- R316: the integer part of an increment. -/
def incrementInteger (v : Word) : BitVec 16 := v.extractLsb' 16 16

/-- R316: the fractional part of an increment. -/
def incrementFraction (v : Word) : BitVec 16 := v.extractLsb' 0 16

/-- R318: the start fraction in units of 1/65536, two's complement. -/
def startFractionUnits (v : BitVec 16) : Int := v.toInt

/-- R319: the Alpha 1 register as the Alpha field loads it (log 32). -/
def alphaOne (v : BitVec 16) : Byte := if Config.alpha1IsHighHalf then v.extractLsb' 8 8 else v.extractLsb' 0 8

/-- R319: the Alpha 0 register as the Alpha field loads it (log 32). -/
def alphaZero (v : BitVec 16) : Byte := if Config.alpha1IsHighHalf then v.extractLsb' 0 8 else v.extractLsb' 8 8

/-- The fields of the control word (R321). -/
structure IcpControl where
  bypass : Bool
  seq422 : Bool
  yuv420 : Bool
  oen    : Bool
  pci    : Bool
  ben    : Bool
  getb   : Bool
  olle   : Bool
  ofrm   : Nat
  chk    : Bool
  le     : Bool
  rgb    : Nat
deriving DecidableEq, Repr

/-- R321: bit 15 Bypass down to bits 3-0 RGB. -/
def icpControl (w : BitVec 16) : IcpControl where
  bypass := w.getLsbD 15
  seq422 := w.getLsbD 14
  yuv420 := w.getLsbD 13
  oen := w.getLsbD 12
  pci := w.getLsbD 11
  ben := w.getLsbD 10
  getb := w.getLsbD 9
  olle := w.getLsbD 8
  ofrm := (w.extractLsb' 6 2).toNat
  chk := w.getLsbD 5
  le := w.getLsbD 4
  rgb := (w.extractLsb' 0 4).toNat

/-- The overlay format and the RGB output code are among those listed (R321, U15). -/
def IcpControl.listed (c : IcpControl) : Bool := c.ofrm < 3 && c.rgb < 8

/-- Output codes 2 to 7 are the RGB formats, 0 and 1 YUV 4:2:2 (R321). -/
def IcpControl.rgbOutput (c : IcpControl) : Bool := 2 ≤ c.rgb

/-- OEN is valid for PCI output only (R321; U16, log 32: without effect on SDRAM output). -/
def IcpControl.overlayOn (c : IcpControl) : Bool := c.oen && c.pci

/-- BEN is valid for PCI output only (R321; U16, log 32: without effect on SDRAM output). -/
def IcpControl.maskOn (c : IcpControl) : Bool := c.ben && c.pci

/-- The order in which the filter takes the components (R322). -/
inductive IcpSequence where
  | uvy | uvyy
deriving DecidableEq, Repr

/-- R322: UVY, or UVYY with 422SEQ. -/
def IcpControl.sequence (c : IcpControl) : IcpSequence := if c.seq422 then .uvyy else .uvy

/-- R322: clock cycles to generate two RGB pixels. -/
def IcpControl.clocksPerTwoPixels (c : IcpControl) : Nat := if c.seq422 then 4 else 6

/-- The YUV input formats of R317. -/
inductive YuvInput where
  | yuv422 | yuv420 | yuv411
deriving DecidableEq, Repr

/-- R317, R322: the scaling factor of U and V over that of Y. For YUV 4:2:2 and 4:2:0 input it is 2 for RGB output in the
UVY sequence, and 1 in the UVYY sequence or for YUV 4:2:2 output, also where that is selected with 422SEQ = 0 (DESIGN CHOICE,
log 32); YUV 4:1:1 input is upsampled by 4. -/
def IcpControl.chromaFactor (c : IcpControl) (f : YuvInput) : Nat :=
  match f with
  | .yuv411 => 4
  | .yuv422 | .yuv420 => if c.rgbOutput && !c.seq422 then 2 else 1

/-- R316, R317: the increment for U and V, whose scaling factor is `chromaFactor` times that of Y. -/
def IcpControl.chromaIncrement (c : IcpControl) (f : YuvInput) (inputWidth outputWidth : Nat) : Word :=
  icpIncrement inputWidth (c.chromaFactor f * outputWidth)

/-- R316, R317: the increments are those of a scaling from one width to another, as software must set them. -/
def IcpParameters.scaled (p : IcpParameters) (f : YuvInput) (inputWidth outputWidth : Nat) : Bool :=
  let chroma := (icpControl p.control).chromaIncrement f inputWidth outputWidth
  p.y.increment == icpIncrement inputWidth outputWidth && p.u.increment == chroma && p.v.increment == chroma

/-- R323: the U and V input line used for an output line; with YUV420 each line is used twice. -/
def IcpControl.chromaLine (c : IcpControl) (line : Nat) : Nat := if c.yuv420 then line / 2 else line

/-! ### The pixels of a line -/

/-- R318: each line starts with the scaling counters at their start fractions. Lines and pixels are numbered from 0 (DESIGN
CHOICE, log 32). -/
def Icp.startLine (u : Icp) (line : Nat) : Icp :=
  { u with
    line := line
    pixel := 0
    yCounter := startFractionUnits u.parameters.y.startFraction
    uCounter := startFractionUnits u.parameters.u.startFraction
    vCounter := startFractionUnits u.parameters.v.startFraction }

/-- The ICP takes its parameters from the table in memory (R316 to R321; the table's layout is not in the source,
log 32) and stands before the first line. -/
def Icp.load (u : Icp) (p : IcpParameters) : Except Refusal Icp :=
  if (icpControl p.control).listed then
    .ok ({ u with parameters := p, alpha1 := alphaOne p.alpha, alpha0 := alphaZero p.alpha, target := p.target }.startLine 0)
  else .error .icpUnlistedFormat

/-- Pixel `k` of an input line of a component (numbered 0 for Y, 1 for U, 2 for V). -/
def inputPixel (image : List (List Byte)) (component line : Nat) (k : Int) : Byte :=
  if k < 0 then Config.icpOutsidePixel component line k
  else ((image.getD line []).getD k.toNat (Config.icpOutsidePixel component line k))

/-- The five input pixels that the filter takes at a counter value: those around it, or, with GETB, the ones nearest to five
output pixels (R321, log 32). -/
def IcpControl.taps (c : IcpControl) (increment : Word) (counter : Int) : List Int :=
  [-2, -1, 0, 1, 2].map fun j =>
    if c.getb then (counter + j * increment.toNat + 32768) / 65536 else counter / 65536 + j

/-- One component of an output pixel: the input pixel itself with Bypass, else the filter of five input pixels (R321). -/
def IcpControl.component (c : IcpControl) (image : List (List Byte)) (component line : Nat) (increment : Word)
    (counter : Int) : Byte :=
  if c.bypass then inputPixel image component line (counter / 65536)
  else Config.icpFilter component ((c.taps increment counter).map (inputPixel image component line))
    (if c.getb then 0 else counter % 65536)

/-- R322: U and V are taken for every pixel in the UVY sequence, and for every other pixel in the UVYY sequence, whatever the
output code (with 422SEQ = 0 and a YUV 4:2:2 code: DESIGN CHOICE, log 32). -/
def IcpControl.chromaDue (c : IcpControl) (pixel : Nat) : Bool := !c.seq422 || pixel % 2 == 0

/-- R320: an output pixel lies in the overlay window; its start and end count lines and pixels from 0 (DESIGN CHOICE,
log 32). -/
def IcpParameters.inOverlay (p : IcpParameters) (line pixel : Nat) : Bool :=
  p.overlayStartPixel ≤ pixel && pixel ≤ p.overlayEndPixel && p.overlayStartLine ≤ line && line ≤ p.overlayEndLine

/-- R320: the overlay pixel that meets an output pixel; the first one meets the start pixel of the start line. OLLE says
that its bytes are stored little-endian (R321, log 32). -/
def Icp.overlayPixel (u : Icp) : List Byte :=
  let bytes := (u.images.overlay.getD (u.line - u.parameters.overlayStartLine) []).getD
    (u.pixel - u.parameters.overlayStartPixel) []
  if (icpControl u.parameters.control).olle then bytes.reverse else bytes

/-- R319, R321: the alpha value of an overlay pixel: its own in format RGB 24+α; in RGB 15+α and YUV 4:2:2+α the register
Alpha 1 or Alpha 0 that its alpha bit names (log 32). -/
def Icp.alphaOf (u : Icp) (overlay : List Byte) : Byte :=
  if (icpControl u.parameters.control).ofrm = 0 then Config.overlayAlpha overlay
  else if Config.overlayAlphaBit overlay then u.alpha1 else u.alpha0

/-- The output pixel for given U and V: converted to the output format, blended with the overlay in its window, in the byte
order of LE for an RGB format (R320 to R322). -/
def Icp.outputPixel (u : Icp) (cu cv : Byte) : List Byte :=
  let p := u.parameters
  let c := icpControl p.control
  let y := c.component u.images.y 0 u.line p.y.increment u.yCounter
  let plain := Config.icpConvert c.rgb (u.pixel % 2 == 1) y cu cv
  let blended := if c.overlayOn && p.inOverlay u.line u.pixel then
      Config.icpBlend c.chk c.ofrm c.rgb (u.alphaOf u.overlayPixel) plain u.overlayPixel
    else plain
  if c.le && c.rgbOutput then blended.reverse else blended

/-- The bit mask lets the output pixel pass (R321, log 32). -/
def Icp.maskPasses (u : Icp) : Bool :=
  !(icpControl u.parameters.control).maskOn || (u.images.mask.getD u.line []).getD u.pixel false

/-- The converter takes new U and V values where they are due, and holds the old ones where they are not (R322). -/
def Icp.takeChroma (u : Icp) : Icp :=
  let p := u.parameters
  let c := icpControl p.control
  if c.chromaDue u.pixel then
    { u with
      uHeld := c.component u.images.u 1 (c.chromaLine u.line) p.u.increment u.uCounter
      vHeld := c.component u.images.v 2 (c.chromaLine u.line) p.v.increment u.vCounter
      uCounter := u.uCounter + p.u.increment.toNat
      vCounter := u.vCounter + p.v.increment.toNat }
  else u

/-- An output pixel is sent to PCI, where the bit mask lets it pass, or to SDRAM (R321), where the MMIO aperture
is memory to it (DESIGN CHOICE, log 7). -/
def Icp.send (u : Icp) (bytes : List Byte) (m : Memory) : Icp × Memory :=
  if (icpControl u.parameters.control).pci then
    ({ u with pciPixel := if u.maskPasses then bytes else u.pciPixel }, m)
  else ({ u with target := u.target + BitVec.ofNat 32 bytes.length }, m.writeBytes u.target bytes)

/-- One output pixel is produced, and the scaling counters move on by their increments (R316, R318). -/
def Icp.producePixel (u : Icp) (m : Memory) : Icp × Memory :=
  let v := u.takeChroma
  let sent := v.send (v.outputPixel v.uHeld v.vHeld) m
  ({ sent.1 with pixel := u.pixel + 1, yCounter := u.yCounter + u.parameters.y.increment.toNat }, sent.2)

end Sys2Proof.Machine
end

