-- ==== Sys2Proof/Machine/VideoIn.lean ====
section
/-! DEFINITION. Video In: raw-mode capture and message-passing mode (60_exceptions.md R260 to R269). -/

namespace Sys2Proof.Machine

/-- The unit's interrupt request (R245, R248). -/
def VideoIn.requests (u : VideoIn) : Bool := u.flags.requests u.enables

/-- The BASE registers hold 64-byte aligned addresses and SIZE a multiple of 64 (R261, R267, U10). -/
def VideoIn.aligned (u : VideoIn) : VideoIn :=
  { u with base1 := align64 u.base1, base2 := align64 u.base2, size := align64 u.size }

/-- CAPTURE_ENABLE is written: on a rising edge buffer 1 becomes the active buffer (R260, R262). The full and OVERRUN flags
stay as they are (DESIGN CHOICE, log 24), and the permission that a soft reset gives to change VI_SIZE ends (DESIGN CHOICE,
log 27). -/
def VideoIn.setCaptureEnable (u : VideoIn) (on : Bool) : VideoIn :=
  if on && !u.captureEnable then
    { u with captureEnable := true, softReset := false, capture := startBuffer .one u.base1 u.base2 u.size }
  else { u with captureEnable := on, receiving := u.receiving && on }

/-- Acknowledges (R247); a stopped capture continues upon ACK1, ACK2 or both, regardless of OVERRUN, in a buffer the
source's lost figure gave (R264, log 24). -/
def VideoIn.acknowledge (u : VideoIn) (acks : CaptureBits) : VideoIn :=
  let v := { u with flags := u.flags.acknowledge acks }
  if u.captureEnable && !u.capture.running && (acks.buf1Full || acks.buf2Full) then
    { v with capture := startBuffer (Config.viResumeBuffer acks.buf1Full acks.buf2Full) u.base1 u.base2 u.size }
  else v

/-- The bytes in which a raw sample is stored: one in raw8 mode, two in the raw10 modes (R260, log 24). -/
def rawSampleBytes (m : ViMode) (x : BitVec 10) : List Byte :=
  match m with
  | .raw8 => [x.extractLsb' 0 8]
  | .raw10 => [(Config.raw10Bytes x).1, (Config.raw10Bytes x).2]
  | .messagePassing => []

/-- Raw capture is on: capture enabled and not stopped (R262, R264). -/
def VideoIn.capturesRaw (u : VideoIn) : Bool := u.captureEnable && u.capture.running && u.mode != .messagePassing

/-- A raw sample arrives: it is stored at the running pointer, which moves by the sample size (R262), and the buffers
are exchanged when full (R263, R264). The MMIO aperture is memory to it (DESIGN CHOICE, log 7). -/
def VideoIn.sample (u : VideoIn) (x : BitVec 10) (m : Memory) : VideoIn × Memory :=
  if u.capturesRaw then
    let bytes := rawSampleBytes u.mode x
    let settled := settleBuffer (u.capture.advance bytes.length 1) u.flags u.base1 u.base2 u.size
    ({ u with capture := settled.1, flags := settled.2 }, m.writeBytes u.capture.pointer bytes)
  else (u, m)

/-- The internal buffers overflow: HBE is asserted and the sample lost; the running pointer stays, so that capture
resumes there (R265, log 25). HBE is asserted also while capture is stopped on OVERRUN (DESIGN CHOICE, log 25). -/
def VideoIn.highwayOverflow (u : VideoIn) : VideoIn :=
  if u.captureEnable then { u with flags := { u.flags with hbe := true } } else u

/-- A START event in message-passing mode: reception into the receive buffer begins (R268, log 26). A START during
reception, or with CAPTURE_ENABLE = 0, is ignored (DESIGN CHOICE, log 26). -/
def VideoIn.messageStart (u : VideoIn) : VideoIn :=
  if u.captureEnable && u.mode == .messagePassing && !u.receiving then
    { u with receiving := true, capture := startBuffer .one u.base1 u.base2 u.size }
  else u

/-- Where byte `k` of a message lies: four bytes to a 32-bit word, in an order the source does not state (R268, log 26). -/
def messageByteAddress (base : Word) (k : Nat) : Word :=
  base + BitVec.ofNat 32 (if Config.viFirstByteLowest then k else k ^^^ 3)

/-- A message byte arrives: it is stored, in the MMIO aperture too (DESIGN CHOICE, log 7); reception ends when the receive
buffer is full (R268), VI_SIZE counting bytes (DESIGN CHOICE, log 26). The bytes of the last word
past the end of the message stay as they were, and a change of the mode does not end a reception (DESIGN CHOICE, log 26). -/
def VideoIn.messageByte (u : VideoIn) (b : Byte) (m : Memory) : VideoIn × Memory :=
  if u.receiving then
    let capture := u.capture.advance 1 1
    ({ u with capture := capture, receiving := !capture.isFull },
      m.write (messageByteAddress u.capture.base u.capture.captured).toNat b)
  else (u, m)

/-- A soft reset: what it clears is not in the source (R342, log 27). -/
def VideoIn.softResetDone (u : VideoIn) : VideoIn :=
  { (Config.viAfterSoftReset u).aligned with softReset := true }

/-- VI_SIZE is written: not in message-passing mode without a soft reset (R268, U11). -/
def VideoIn.writeSize (u : VideoIn) (v : Word) : Except Refusal VideoIn :=
  if u.mode == .messagePassing && !u.softReset then .error .viSizeWithoutReset else .ok { u with size := align64 v }

end Sys2Proof.Machine
end

