-- ==== Sys2Proof/Machine/VideoOut.lean ====
section
/-! DEFINITION. Enhanced Video Out (60_exceptions.md R280 to R292). -/

namespace Sys2Proof.Machine

/-- Each condition is cleared by a 1 in its own acknowledge bit (R247, R284, R331). -/
def EvoBits.acknowledge (f acks : EvoBits) : EvoBits where
  bfr1Empty := f.bfr1Empty && !acks.bfr1Empty
  bfr2Empty := f.bfr2Empty && !acks.bfr2Empty
  hbe := f.hbe && !acks.hbe
  urun := f.urun && !acks.urun
  ytr := f.ytr && !acks.ytr

/-- The interrupt request line: some enabled condition is set (R248, R285). -/
def EvoBits.requests (f enables : EvoBits) : Bool :=
  f.bfr1Empty && enables.bfr1Empty || f.bfr2Empty && enables.bfr2Empty || f.hbe && enables.hbe ||
    f.urun && enables.urun || f.ytr && enables.ytr

/-- The empty flag of a buffer. -/
def EvoBits.empty (f : EvoBits) : Buffer → Bool
  | .one => f.bfr1Empty
  | .two => f.bfr2Empty

/-- A buffer's empty flag is asserted (R285). -/
def EvoBits.setEmpty (f : EvoBits) : Buffer → EvoBits
  | .one => { f with bfr1Empty := true }
  | .two => { f with bfr2Empty := true }

/-- The unit's interrupt request (R245, R248). -/
def VideoOut.requests (u : VideoOut) : Bool := u.flags.requests u.enables

/-- The unit acts: not in software reset, which halts it; in video-refresh modes once sync framing runs, with VO_ENABLE on
or off; in the data modes while VO_ENABLE is 1, so that the end of a message stops it (R282, R287, log 28). -/
def VideoOut.operates (u : VideoOut) : Bool :=
  !u.reset && (if u.mode == .videoRefresh then u.framing else u.voEnable)

/-- The signals of data-streaming mode are enabled (R281). -/
def VideoOut.streamSignals (u : VideoOut) : Bool := u.mode == .dataStreaming && u.evoEnable && u.syncStreaming

/-- The data-valid signal on VO_IO2 in data-streaming mode: from just before the first valid byte to just after the last
one, and not while HBE is signalled (R281, log 28). -/
def VideoOut.dataValid (u : VideoOut) : Bool :=
  u.streamSignals && u.voEnable && (u.sending.phase == .sending || u.sending.phase == .exhausted) && !u.flags.hbe

/-! ### Registers -/

/-- A write of VO_CTL may not set RESET and VO_ENABLE together (R287, U7). -/
def VoCtlWrite.resetOk (w : VoCtlWrite) : Bool := !(w.reset && w.voEnable)

/-- BFR2_INTEN, URUN_INTEN and YTR_INTEN must be 0 in message-passing mode (R285, U8). -/
def VoCtlWrite.intensOk (w : VoCtlWrite) : Bool :=
  w.mode != .messagePassing || !(w.enables.bfr2Empty || w.enables.urun || w.enables.ytr)

/-- The sending of a buffer from its first byte on (R287, R331), with copies of BASE and SIZE: a later write of them reaches
the buffer at its next use (DESIGN CHOICE, log 28). -/
def VideoOut.sendBuffer (u : VideoOut) (b : Buffer) (phase : SendPhase) : Sending :=
  ⟨b, baseOf u.base1 u.base2 b, u.size.toNat, phase⟩

/-- VO_ENABLE is set (R287): in video-refresh modes the image is sent from its first pixel on, and sync framing runs, from
pixel 1 of line 1 if it did not run before; in the data modes data is sent from the first byte in Buffer 1 on; a message
begins with the Start condition (R282). The empty flags stay as they are, so that a stream raises URUN at the end of Buffer 1
if BFR2_EMPTY is still set (DESIGN CHOICE, log 28). -/
def VideoOut.enable (u : VideoOut) : VideoOut :=
  match u.mode with
  | .videoRefresh =>
    { u with
      framing := true
      frameLine := if u.framing then u.frameLine else 1
      framePixel := if u.framing then u.framePixel else 1
      areaField := none
      imagePosition := 0
      fieldPointers := u.nextPointers }
  | .dataStreaming => { u with sending := u.sendBuffer .one .starting }
  | .messagePassing => { u with sending := u.sendBuffer .one .starting, startSent := true, endSent := false }

/-- Data streaming waits for a new buffer (R331). -/
def VideoOut.stalled (u : VideoOut) : Bool :=
  u.mode == .dataStreaming && u.voEnable && (u.sending.phase == .exhausted || u.sending.phase == .idle)

/-- An acknowledge of a buffer hands it over anew, and a stalled stream goes on in it (R331, log 28). -/
def VideoOut.resume (u : VideoOut) (acks : EvoBits) : VideoOut :=
  if u.stalled && (acks.bfr1Empty || acks.bfr2Empty) then
    { u with sending := u.sendBuffer (Config.evoResumeBuffer acks.bfr1Empty acks.bfr2Empty) .starting }
  else u

/-- The control fields that a write of VO_CTL leaves (R283 to R287). RESET and a cleared VO_ENABLE stop the sending of
data; RESET stops sync framing too. A message cut short by a cleared VO_ENABLE sends no End condition and sets no flag
(DESIGN CHOICE, log 28). -/
def VideoOut.setControl (u : VideoOut) (w : VoCtlWrite) : VideoOut :=
  { u with
    mode := w.mode
    format := w.format
    reset := w.reset
    voEnable := w.voEnable
    ltlEnd := w.ltlEnd
    enables := w.enables
    flags := u.flags.acknowledge w.acks
    framing := u.framing && !w.reset && w.mode == .videoRefresh
    sending := if w.voEnable then u.sending else { u.sending with phase := .idle }
    io1Pulse := u.io1Pulse && w.voEnable && w.mode == u.mode }

/-- VO_CTL is written (R284 to R287). A new mode with VO_ENABLE kept at 1 counts as setting VO_ENABLE anew, and ends a
pulse on VO_IO1 (DESIGN CHOICE, log 28). -/
def VideoOut.writeCtl (u : VideoOut) (w : VoCtlWrite) : Except Refusal VideoOut :=
  if !w.resetOk then .error .voResetWithEnable
  else if !w.intensOk then .error .voMessageModeIntens
  else if w.voEnable && (!u.voEnable || w.mode != u.mode) then .ok (u.setControl w).enable
  else .ok ((u.setControl w).resume w.acks)

/-- VO_FRAME, VO_FIELD and VO_LINE are written (R290 to R292); VIDEO_PIXEL_START must be even (U9). -/
def VideoOut.writeTiming (u : VideoOut) (t : VoTiming) : Except Refusal VideoOut :=
  if t.videoPixelStart % 2 = 0 then
    .ok { u with
      frameLength := t.frameLength
      field2Start := t.field2Start
      framePreset := t.framePreset
      f1VideoLine := t.f1VideoLine
      f2VideoLine := t.f2VideoLine
      f1Olap := t.f1Olap
      f2Olap := t.f2Olap
      frameWidth := t.frameWidth
      videoPixelStart := t.videoPixelStart }
  else .error .voPixelStartOdd

/-! ### Data-streaming and message-passing modes -/

/-- A buffer of the stream is empty: its flag is asserted, and data is sent from the other buffer without a break, or,
where that one has not been acknowledged, URUN is raised and sending ends (R331, log 28). -/
def VideoOut.exchange (u : VideoOut) (b : Buffer) : VideoOut :=
  let flags := u.flags.setEmpty b
  if flags.empty b.other then
    { u with flags := { flags with urun := true }, sending := { u.sending with phase := .exhausted } }
  else { u with flags := flags, sending := u.sendBuffer b.other .sending }

/-- The content of a buffer has been sent. In message-passing mode the End condition is sent, BFR1_EMPTY is set and
VO_ENABLE is cleared (R282, R287); in video-refresh modes the flag is set with VO_ENABLE off too (R287). -/
def VideoOut.bufferEmpty (u : VideoOut) (b : Buffer) : VideoOut :=
  if !u.operates then u
  else match u.mode with
    | .messagePassing =>
      if b == .one then
        { u with
          flags := u.flags.setEmpty .one
          voEnable := false
          startSent := false
          endSent := true
          sending := { u.sending with phase := .idle } }
      else u
    | .videoRefresh => { u with flags := u.flags.setEmpty b }
    | .dataStreaming => u.exchange b

/-- One byte is sent, without selection or interpretation (R280), and its buffer may now be empty. -/
def VideoOut.sendByte (u : VideoOut) (m : Memory) : VideoOut :=
  let v := { u with
    data := [unitByte m u.sending.pointer]
    io1Pulse := false
    sending := { u.sending with pointer := u.sending.pointer + 1, left := u.sending.left - 1 } }
  if v.sending.left = 0 then v.bufferEmpty v.sending.active else v

/-- A positive edge of VO_CLK in a data mode: one byte (R280); VO_IO1 is high for the one clock before the first valid byte
of a stream (R281). The data of a unit that has stopped stays on the pins, that of a stalled stream does not (DESIGN CHOICE,
log 28). -/
def VideoOut.clock (u : VideoOut) (m : Memory) : VideoOut :=
  if u.operates && u.mode != .videoRefresh then
    match u.sending.phase with
    | .idle => { u with data := [], io1Pulse := false }
    | .starting => { u with data := [], io1Pulse := u.streamSignals, sending := { u.sending with phase := .sending } }
    | .sending => u.sendByte m
    | .exhausted => { u with data := [], io1Pulse := false, sending := { u.sending with phase := .idle } }
  else u

/-! ### Video-refresh modes -/

/-- The field in which the Frame Line Counter stands: the second begins at FIELD_2_START (R290). How two fields programmed
alike run is the model's choice (log 29). -/
def VideoOut.field (u : VideoOut) : FrameField := if u.frameLine < u.field2Start then .one else .two

/-- The first active video line of a field (R291). -/
def VideoOut.firstVideoLine (u : VideoOut) : FrameField → Nat
  | .one => u.f1VideoLine
  | .two => u.f2VideoLine

/-- The line at which the blanking after a field starts: where the other field begins, or earlier by a negative overlap
(R291: "blanking actually starts two lines before end of Field 2", log 29). -/
def VideoOut.blankingStart (u : VideoOut) : FrameField → Int
  | .one => u.field2Start + min u.f1Olap 0
  | .two => u.frameLength + 1 + min u.f2Olap 0

/-- The line is one of active video (R290, R291, log 29). -/
def VideoOut.lineActive (u : VideoOut) : Bool :=
  u.firstVideoLine u.field ≤ u.frameLine && (u.frameLine : Int) < u.blankingStart u.field

/-- The field whose SAV and EAV codes are emitted: a positive overlap delays the change by that many lines (R291,
log 29). -/
def VideoOut.codeField (u : VideoOut) : FrameField :=
  if (u.frameLine : Int) ≤ max u.f2Olap 0 then .two
  else if (u.frameLine : Int) < u.field2Start + max u.f1Olap 0 then .one
  else .two

/-- The pixel is one of the active image, which runs from VIDEO_PIXEL_START to the end of the line (R292). -/
def VideoOut.pixelActive (u : VideoOut) : Bool := u.lineActive && u.videoPixelStart ≤ u.framePixel

/-- A packed overlay word in the byte order that LTL_END gives: nothing else depends on that bit (R286, log 28). -/
def VideoOut.overlayWord (u : VideoOut) (m : Memory) (a : Word) : Word :=
  let byteAt (k : Nat) : Byte := unitByte m (a + BitVec.ofNat 32 k)
  if u.ltlEnd then wordOf (byteAt 3) (byteAt 2) (byteAt 1) (byteAt 0)
  else wordOf (byteAt 0) (byteAt 1) (byteAt 2) (byteAt 3)

/-- What is sent at the pixel at which the counters stand (R283, R287): image data, undefined with VO_ENABLE off, when
SDRAM is not read; blanking data outside the active image. -/
def VideoOut.sendPixel (u : VideoOut) (m : Memory) : VideoOut :=
  if u.pixelActive then
    if u.voEnable then
      { u with
        data := Config.imageData u.format u.fieldPointers (unitByte m) (u.overlayWord m) u.imagePosition
        imagePosition := u.imagePosition + 1 }
    else { u with data := Config.undefinedImageData u.undefinedSent, undefinedSent := u.undefinedSent + 1 }
  else { u with data := Config.blankingData u.codeField u.lineActive u.framePixel }

/-- The active image area of the next field starts: without YTR_ACK, URUN is set and the transfer continues with the old
pointers; else it takes the new ones (R284). -/
def VideoOut.startField (u : VideoOut) : VideoOut :=
  if u.flags.ytr then { u with flags := { u.flags with urun := true }, imagePosition := 0 }
  else { u with fieldPointers := u.nextPointers, imagePosition := 0 }

/-- The first active pixel of a field starts its image area (R284, R291, R292); a line of blanking ends it. -/
def VideoOut.enterArea (u : VideoOut) : VideoOut :=
  if u.pixelActive then
    if u.areaField = some u.field then u else { u.startField with areaField := some u.field }
  else if u.lineActive then u
  else { u with areaField := none }

/-- The Frame Line Counter counts from 1 to FRAME_LENGTH (R290); line 1 begins a new frame. -/
def VideoOut.nextLine (u : VideoOut) : VideoOut :=
  if u.frameLength ≤ u.frameLine then { u with frameLine := 1, areaField := none }
  else { u with frameLine := u.frameLine + 1 }

/-- The Frame Pixel Counter counts the FRAME_WIDTH pixels of a line, to FRAME_WIDTH and so from 1, and the line counter
advances with each line (R292, log 29). -/
def VideoOut.nextPixel (u : VideoOut) : VideoOut :=
  if u.frameWidth ≤ u.framePixel then { u.nextLine with framePixel := 1 } else { u with framePixel := u.framePixel + 1 }

/-- One pixel time of a video-refresh mode: the pixel at which the counters stand is sent, and they move on. -/
def VideoOut.pixelTime (u : VideoOut) (m : Memory) : VideoOut :=
  if u.operates && u.mode == .videoRefresh then (u.enterArea.sendPixel m).nextPixel else u

/-- The image of a video-refresh mode has left a buffer (R287; log 28: when is not in the source). -/
def VideoOut.imageEmpty (u : VideoOut) (b : Buffer) : VideoOut :=
  if u.mode == .videoRefresh then u.bufferEmpty b else u

/-- The end of a field or buffer: YTR asks the CPU for new pointers (R284, R285). -/
def VideoOut.endOfField (u : VideoOut) : VideoOut :=
  if u.operates then { u with flags := { u.flags with ytr := true } } else u

/-- A highway bandwidth error (R281, R331). -/
def VideoOut.highwayError (u : VideoOut) : VideoOut :=
  if u.operates then { u with flags := { u.flags with hbe := true } } else u

/-- A frame timing edge on VO_IO2 loads FRAME_PRESET (R290) in video-refresh modes, but while RESET is 1; in the data modes
that pin is an output (R281, R282; log 28, log 29). It begins a new frame: on an active line the image area of the field
starts at the next active pixel; the pixel counter stays (DESIGN CHOICE, log 29). -/
def VideoOut.frameEdge (u : VideoOut) : VideoOut :=
  if !u.reset && u.mode == .videoRefresh then { u with frameLine := u.framePreset, areaField := none } else u

end Sys2Proof.Machine
end

