-- ==== Sys2Proof/Machine/Xio.lean ====
section
/-! DEFINITION. The PCI-XIO bus (60_exceptions.md R325 to R328). -/

namespace Sys2Proof.Machine

/-- While the XIO bus is active PCI parity checking is inhibited (R326). -/
def Xio.parityChecked (x : Xio) : Bool := !x.active

/-- No parity is generated on XIO write transfers (R326). -/
def Xio.parityGenerated (x : Xio) : Bool := !x.active

/-- While the XIO bus is active its logic drives the PCI Parity and Parity Error pins (R326). -/
def Xio.parityPinsDriven (x : Xio) : Bool := x.active

/-- During XIO transfers the PCI byte enables are control signals of the attached chips (R328). -/
def Xio.byteEnablesAreControl (x : Xio) : Bool := x.active

/-- Byte `k` of a word replaced. -/
def setByte (v : Word) (k : Fin 4) (b : Byte) : Word :=
  wordOf (if k = 3 then b else byteOf v 3) (if k = 2 then b else byteOf v 2) (if k = 1 then b else byteOf v 1)
    (if k = 0 then b else byteOf v 0)

/-- The PCI word of its own in which an XIO byte travels (R327, log 33). -/
def xioWord (draw : Nat) (b : Byte) : Word := setByte (Config.xioOtherBytes draw) Config.xioLane b

/-- The transfer of one byte over the active bus: one PCI word, counted (R325, R327), no parity (R326), PCI_TRDY# driven,
IORD or IOWR by its direction and the data strobe DS (R328, log 33). -/
def Xio.transfer (x : Xio) (d : XioDirection) (b : Byte) : Xio :=
  if x.active then
    { x with
      words := x.words + 1
      last := some
        { direction := d
          byte := b
          word := xioWord x.words b
          iord := d == .read
          iowr := d == .write
          ds := x.byteEnablesAreControl
          trdy := true
          parityGenerated := x.parityGenerated
          parityChecked := x.parityChecked } }
  else x

/-- The bus becomes active, or is given back; no transfer is then on it. -/
def Xio.setActive (x : Xio) (on : Bool) : Xio := { x with active := on, last := none }

end Sys2Proof.Machine
end

