-- ==== Sys2Proof/Machine/UnitEvents.lean ====
section
/-! DEFINITION. What one unit event does to the machine (60_exceptions.md part 3; log 23). -/

namespace Sys2Proof.Machine

/-- Replace the state of one unit. -/
def State.setVi (s : State) (u : VideoIn) : State := { s with units := { s.units with vi := u } }
def State.setEvo (s : State) (u : VideoOut) : State := { s with units := { s.units with evo := u } }
def State.setAi (s : State) (u : AudioIn) : State := { s with units := { s.units with ai := u } }
def State.setIcp (s : State) (u : Icp) : State := { s with units := { s.units with icp := u } }
def State.setXio (s : State) (u : Xio) : State := { s with units := { s.units with xio := u } }

/-- Go on with a unit's new state, or refuse. -/
def orRefuse {α : Type} (x : Except Refusal α) (f : α → State) : Host.Outcome State Fault Refusal :=
  match x with
  | .ok u => .next (f u)
  | .error r => .refused r

/-- The effect of one unit event. A mode written to Video In while capture is enabled leaves the capture as it stands (log 24);
a write of the Enhanced Video Out's BASE or SIZE reaches the buffer at its next use (log 28); a powered-down Audio In takes
writes and acknowledges as usual (log 31) (DESIGN CHOICE). -/
def unitEvent (e : UnitEvent) (s : State) : Host.Outcome State Fault Refusal :=
  let vi := s.units.vi
  let evo := s.units.evo
  let ai := s.units.ai
  let icp := s.units.icp
  let xio := s.units.xio
  match e with
  | .viSetMode m => .next (s.setVi { vi with mode := m })
  | .viWriteBase1 v => .next (s.setVi { vi with base1 := align64 v })
  | .viWriteBase2 v => .next (s.setVi { vi with base2 := align64 v })
  | .viWriteSize v => orRefuse (vi.writeSize v) s.setVi
  | .viWriteEnables b => .next (s.setVi { vi with enables := b })
  | .viSetCaptureEnable on => .next (s.setVi (vi.setCaptureEnable on))
  | .viAck b => .next (s.setVi (vi.acknowledge b))
  | .viSample x => .next { s.setVi (vi.sample x s.mem).1 with mem := (vi.sample x s.mem).2 }
  | .viHighwayOverflow => .next (s.setVi vi.highwayOverflow)
  | .viMessageStart => .next (s.setVi vi.messageStart)
  | .viMessageByte b => .next { s.setVi (vi.messageByte b s.mem).1 with mem := (vi.messageByte b s.mem).2 }
  | .viMessageEnd => .next (s.setVi { vi with receiving := false })
  | .viSoftReset => .next (s.setVi vi.softResetDone)
  | .evoWriteCtl w => orRefuse (evo.writeCtl w) s.setEvo
  | .evoWriteEvoCtl a b => .next (s.setEvo { evo with evoEnable := a, syncStreaming := b })
  | .evoWriteClock f => .next (s.setEvo { evo with frequency := f })
  | .evoWriteTiming t => orRefuse (evo.writeTiming t) s.setEvo
  | .evoWriteBase1 v => .next (s.setEvo { evo with base1 := align64 v })
  | .evoWriteBase2 v => .next (s.setEvo { evo with base2 := align64 v })
  | .evoWriteSize v => .next (s.setEvo { evo with size := v })
  | .evoSetPointers l => .next (s.setEvo { evo with nextPointers := l })
  | .evoClock => .next (s.setEvo (evo.clock s.mem))
  | .evoPixel => .next (s.setEvo (evo.pixelTime s.mem))
  | .evoImageEmpty b => .next (s.setEvo (evo.imageEmpty b))
  | .evoEndOfField => .next (s.setEvo evo.endOfField)
  | .evoHighwayError => .next (s.setEvo evo.highwayError)
  | .evoFrameEdge => .next (s.setEvo evo.frameEdge)
  | .aiWriteBase1 v => .next (s.setAi { ai with base1 := align64 v })
  | .aiWriteBase2 v => .next (s.setAi { ai with base2 := align64 v })
  | .aiWriteSize v => .next (s.setAi { ai with size := align64 v })
  | .aiWriteEnables b => .next (s.setAi { ai with enables := b })
  | .aiWriteCtl c sl d => .next (s.setAi (ai.writeCtl c sl d))
  | .aiAck b => .next (s.setAi (ai.acknowledge b))
  | .aiSample x ao => .next (s.setAi (ai.sample (ai.converterInput x ao)))
  | .aiHighwayGrant => .next { s.setAi (ai.highwayGrant s.mem).1 with mem := (ai.highwayGrant s.mem).2 }
  | .aiSoftReset => .next (s.setAi ai.softResetDone)
  | .aiBlockPowerDown on => .next (s.setAi { ai with blockPowerDown := on })
  | .icpLoadTable a => orRefuse (icp.load (Config.icpTable (unitByte s.mem) a)) s.setIcp
  | .icpLoadParameters p => orRefuse (icp.load p) s.setIcp
  | .icpLoadImages g => .next (s.setIcp { icp with images := g })
  | .icpStartLine k => .next (s.setIcp (icp.startLine k))
  | .icpPixel => .next { s.setIcp (icp.producePixel s.mem).1 with mem := (icp.producePixel s.mem).2 }
  | .xioBegin => .next (s.setXio (xio.setActive true))
  | .xioTransfer d b => .next (s.setXio (xio.transfer d b))
  | .xioEnd => .next (s.setXio (xio.setActive false))
  | .enterGlobalPowerDown => .next { s.setAi ai.globalPowerDown with globalPowerDown := true }

/-- The interrupt request of a unit that is awake: Video In and the Enhanced Video Out, of which no power down is described,
and Audio In while it is powered (R254, R255, log 31). -/
def Units.request (u : Units) : Bool := u.vi.requests || u.evo.requests || u.ai.requests && u.ai.powered

/-- An interrupt from a unit that stayed awake wakes the DSPCPU from global power down (R254). A request that stands when
the mode is entered wakes it at once (DESIGN CHOICE, log 31). -/
def State.wake (s : State) : State := { s with globalPowerDown := s.globalPowerDown && !s.units.request }

/-- One turn of the units. -/
def unitStep (e : UnitEvent) (s : State) : Host.Outcome State Fault Refusal :=
  andThen (unitEvent e s) fun t => .next t.wake

end Sys2Proof.Machine
end

