-- ==== Sys2Proof/Machine/Cycle.lean ====
section
/-! DEFINITION. One instruction of the DSPCPU: fetch, commit, check, execute, advance (70_reset_and_hazards.md R352). -/

namespace Sys2Proof.Machine

/-- The instruction at the program position; none at the end of the run (R35). -/
def State.fetch (s : State) : Option (List OpRecord) := s.program[s.ip]?

/-- One operation of an instruction; the free values of the next one are drawn anew (log 11). -/
def execOperation (i : Instr) (s : State) : Host.Outcome State Fault Refusal :=
  andThen (exec i s) fun t => .next { t with draws := t.draws + 1 }

/-- The operations of an instruction, one after the other. None sees another's result (R352): results stay in flight,
and no operation reads memory. -/
def execOperations : List Instr → State → Host.Outcome State Fault Refusal
  | [], s => .next s
  | i :: rest, s => andThen (execOperation i s) (execOperations rest)

/-- What goes before the operations of an instruction: the results due are committed, the checks noted (R352 steps 1
to 3). -/
def State.prepare (s : State) (ops : List Instr) : State := s.commit.noteBreach ops

/-- Step 6 of R352: the next instruction; the cycles of this one are counted (R45). -/
def State.advance (s : State) : State :=
  { s.countCycles with ip := s.ip + 1, stored := [], draws := s.draws + 1 }

/-- The instruction whose records have been fetched (R352). -/
def executeInstruction (recs : List OpRecord) (s : State) : Host.Outcome State Fault Refusal :=
  match checkInstruction s.cfg s.nRegs recs with
  | .error r => .refused r
  | .ok ops => andThen (execOperations ops (s.prepare ops)) fun t => .next t.advance

/-- One turn of the DSPCPU: asleep in global power down it waits (R254, log 31); at the end of the program the results
in flight are drained and the state stays (R35, R352, log 19). -/
def dspcpuStep (s : State) : Host.Outcome State Fault Refusal :=
  if s.globalPowerDown then .next s
  else match s.fetch with
    | none => .next s.drain
    | some recs => executeInstruction recs s

/-- A program with one instruction placed at position `k`; positions before it that do not exist become empty
instructions. -/
def placeInstruction (p : List (List OpRecord)) (k : Nat) (recs : List OpRecord) : List (List OpRecord) :=
  p.take k ++ List.replicate (k - p.length) [] ++ recs :: p.drop (k + 1)

end Sys2Proof.Machine
end

