-- ==== Sys2Proof/Machine/Step.lean ====
section
/-! DEFINITION. One step of the machine: the next unit event of the agenda, or one instruction of the DSPCPU (log 23). -/

namespace Sys2Proof.Machine

/-- One step. -/
def step (s : State) : Host.Outcome State Fault Refusal :=
  match s.agenda with
  | e :: rest => unitStep e { s with agenda := rest }
  | [] => dspcpuStep s

/-- `s` with the packed record `w` as the one operation of the instruction at the program position, the DSPCPU awake
and no unit event before it, so that the next step runs exactly it (log 19). -/
def State.withFetchWord (s : State) (nbits w : Nat) : State :=
  { s with program := placeInstruction s.program s.ip [recordOfWord nbits w], agenda := [], globalPowerDown := false }

end Sys2Proof.Machine
end

