-- ==== Sys2Proof/Machine/Ruled.lean ====
section
/-! DEFINITION. The outcome that R352 and R362 themselves give a step: the first check that fires ends it. `step` goes on
past these checks and records the first one in State.breach (log 14). -/

namespace Sys2Proof.Machine

/-- The outcome of the check that fires (R33, R195, R197, R353, R355). -/
def Breach.outcome : Breach → Host.Outcome State Fault Refusal
  | .unwrittenRegister => .fault .unwrittenRegister
  | .latencyHazard => .refused .latencyHazard
  | .writeConflict => .refused .writeConflict
  | .storeConflict => .refused .storeConflict
  | .misalignedStore => .fault .misalignedStore
  | .mmioNon32 => .fault .mmioNon32

/-- An instruction under R352: refused where it is not well-formed, ended by its first check that fires, else executed. -/
def ruledInstruction (recs : List OpRecord) (s : State) : Host.Outcome State Fault Refusal :=
  match checkInstruction s.cfg s.nRegs recs with
  | .error r => .refused r
  | .ok ops =>
    match s.commit.firstBreach ops with
    | some b => b.outcome
    | none => executeInstruction recs s

/-- One step with the outcomes of R352 and R362. -/
def ruledStep (s : State) : Host.Outcome State Fault Refusal :=
  match s.agenda with
  | e :: rest => unitStep e { s with agenda := rest }
  | [] =>
    if s.globalPowerDown then .next s
    else match s.fetch with
      | none => .next s.drain
      | some recs => ruledInstruction recs s

end Sys2Proof.Machine
end

