-- ==== Sys2Proof/Safety.lean ====
section
/-! DEFINITION. What statements call a sound state, a clean run and a safe step. -/

namespace Sys2Proof.Machine

/-- No check of R352 has fired in the run: the premise under which no result of the run rests on a value the source
does not give (log 14). -/
abbrev State.clean (s : State) : Prop := s.breach = none

/-- A result in flight of a sound state: it was issued by an earlier instruction, it is due now or later, and its
destination is a writable register of the file (R31, R55, R119). -/
abbrev InFlight.sound (ip nRegs : Nat) (p : InFlight) : Prop :=
  ip ≤ p.due ∧ p.issued < ip ∧ 2 ≤ p.dest ∧ p.dest < nRegs

/-- The invariant of every run: at least 126 registers (R7), memory in canonical form, a legal configuration, no
instruction half done, sound results in flight, and only registers of the file marked written. -/
abbrev State.Inv (s : State) : Prop :=
  126 ≤ s.nRegs ∧ s.mem.wf ∧ s.cfg.wf = true ∧ s.stored = [] ∧
    (∀ p ∈ s.pending, p.sound s.ip s.nRegs) ∧ ∀ r ∈ s.written, r < s.nRegs

/-- A value whose six LSBs are 0 (R267, R300). -/
abbrev is64Aligned (v : Word) : Prop := v.extractLsb' 0 6 = 0

/-- The address registers of the capture units hold 64-byte aligned values (R267, R300). -/
abbrev State.unitsAligned (s : State) : Prop :=
  is64Aligned s.units.vi.base1 ∧ is64Aligned s.units.vi.base2 ∧ is64Aligned s.units.vi.size ∧
    is64Aligned s.units.ai.base1 ∧ is64Aligned s.units.ai.base2 ∧ is64Aligned s.units.ai.size

/-- VO registers of a sound state: the buffers are 64-byte aligned (R331), VIDEO_PIXEL_START is even (R292), RESET and
VO_ENABLE are not 1 together (R287), and in message-passing mode three enables are 0 (R285). -/
abbrev VideoOut.sound (u : VideoOut) : Prop :=
  is64Aligned u.base1 ∧ is64Aligned u.base2 ∧ u.videoPixelStart % 2 = 0 ∧ (u.reset = true → u.voEnable = false) ∧
    (u.mode = .messagePassing → u.enables.bfr2Empty = false ∧ u.enables.urun = false ∧ u.enables.ytr = false)

/-- How often the ICP has taken U and V values before pixel `n` of a line (R322): once for each pixel in the UVY sequence,
once for two in the UVYY sequence. -/
def IcpControl.chromaTaken (c : IcpControl) (n : Nat) : Nat := if c.seq422 then (n + 1) / 2 else n

/-- A scaling counter `n` increments after the start of its line (R316, R318). -/
def IcpScale.counterAfter (p : IcpScale) (n : Nat) : Int := p.startFraction.toInt + n * p.increment.toNat

/-- A sound ICP: listed formats (R321), alpha registers loaded from the two halves of the Alpha field (R319), and scaling
counters that started the line at their start fraction and moved by their increment (R318, R322). -/
abbrev Icp.sound (u : Icp) : Prop :=
  let c := icpControl u.parameters.control
  c.ofrm < 3 ∧ c.rgb < 8 ∧
    (u.alpha1 ++ u.alpha0 = u.parameters.alpha ∨ u.alpha0 ++ u.alpha1 = u.parameters.alpha) ∧
    u.yCounter = u.parameters.y.counterAfter u.pixel ∧
    u.uCounter = u.parameters.u.counterAfter (c.chromaTaken u.pixel) ∧
    u.vCounter = u.parameters.v.counterAfter (c.chromaTaken u.pixel)

/-- A sound transfer of the XIO bus: its word carries its byte (R327), IORD or IOWR says its direction, DS and PCI_TRDY#
are driven (R328), and no parity is generated or checked (R326). -/
abbrev XioTransfer.sound (r : XioTransfer) : Prop :=
  (∃ k < 4, byteOf r.word k = r.byte) ∧ (r.iord = true ↔ r.direction = .read) ∧
    (r.iowr = true ↔ r.direction = .write) ∧ r.ds = true ∧ r.trdy = true ∧
    r.parityGenerated = false ∧ r.parityChecked = false

/-- A sound XIO bus: a transfer is on it only while it is active, and has been counted (R325, R326). -/
abbrev Xio.sound (x : Xio) : Prop := ∀ r, x.last = some r → x.active = true ∧ 0 < x.words ∧ r.sound

/-- The output units hold what the spec admits. -/
abbrev State.unitsSound (s : State) : Prop := s.units.evo.sound ∧ s.units.icp.sound ∧ s.units.xio.sound

/-- The results that an operation issues where it is executed alone (R352 step 5 e). -/
def State.issuedBy (s : State) (i : Instr) : List InFlight :=
  match exec i s with
  | .next t => t.pending.drop s.pending.length
  | _ => []

/-- A read of `r` gives a defined value: the register is hard-wired, or has been written and is read as the register file
holds it (R31 to R33). -/
abbrev State.defined (s : State) (r : RegNo) : Prop :=
  (s.readReg r = s.fileReg r ∧ r ∈ s.written) ∨ hardwired s.cfg r = some (s.readReg r)

/-- The state in which the operations of the instruction being executed are examined: a sound state after step 1 of
R352. -/
abbrev State.IssueReady (s : State) : Prop := ∀ p ∈ s.pending, s.ip < p.due ∧ p.issued < s.ip

/-- The next step is the DSPCPU's: no unit event comes before it, and it is awake (log 23, log 31). -/
abbrev State.onTurn (s : State) : Prop := s.agenda = [] ∧ s.globalPowerDown = false

/-- A register whose content is defined where it is read: hard-wired, or with no result in flight (R353). -/
abbrev State.settled (s : State) (r : RegNo) : Prop := (hardwired s.cfg r).isSome = true ∨ s.inFlight r = false

/-- The value of a finite normal single-precision number as the rational that R23 writes. -/
def fpValue (v : Word) : ℚ :=
  (if fpSign v then -1 else 1) * (1 + (fpFrac v : ℚ) / 2 ^ 23) * 2 ^ ((fpExp v : ℤ) - 127)

/-- A normal number (R23). -/
abbrev isNormal (v : Word) : Prop := 0 < fpExp v ∧ fpExp v < 255

/-- `n` is the rational `q` rounded to an integer in a mode (R172). -/
abbrev RoundsTo (mode : RoundingMode) (q : ℚ) (n : ℤ) : Prop :=
  match mode with
  | .nearestEven => |q - n| ≤ 1 / 2 ∧ (|q - n| = 1 / 2 → n % 2 = 0)
  | .towardZero => if 0 ≤ q then n = ⌊q⌋ else n = ⌈q⌉
  | .towardPlusInf => n = ⌈q⌉
  | .towardMinusInf => n = ⌊q⌋

/-- One pixel of Figure 4-4 (R158): the C code's average, sum and saturation test on the integers. -/
def figure44Pixel (back forward : Byte) (idct : Byte) : Int :=
  let temp := ((back.toNat + forward.toNat + 1 : Nat) : Int) / 2 + idct.toInt
  if 255 < temp then 255 else if temp < 0 then 0 else temp

end Sys2Proof.Machine
end

