-- ==== Sys2Proof/Certificates/Slice0/Obligations.lean ====
section
/-! DEFINITION. The statements for the provers. -/

open Sys2Proof Sys2Proof.Machine

/-! ### Encoding -/

/-- Tier 1, encoding. The decoder gives back every operation that the encoder writes as a record (R101 to R108). That
`st16` and `dspiabs` have records of their own beside those of the operations behind them, `st16` the code 30 record
without a modifier and `dspiabs` a record by its name, is the model's choice (log 18). -/
def Obligations.RecordsDecodeToTheirOperation : Prop :=
  ∀ i : Instr, decode (encode i) = .ok i

/-- Tier 3, encoding. Decode and encode agree on packed words: for every well-formed operation, and for every
operation that is only named, with every operand at every value its field holds. The layout is log 17. -/
def Obligations.PackedWordsDecodeToTheirOperation : Prop :=
  ∀ (c : Config) (n : Nat) (i : Instr), n ≤ 2 ^ 16 →
    (i.wf c n = true ∨ (i.namedOnly.isSome = true ∧ i.slot ≤ 5)) →
    decodeTableWord recordBits (encodeWord i) = some i

/-- Tier 2, encoding. A record has one meaning: the record of the operation it decodes to is the record itself, for
every operation with a form in the spec, and for `st16` and `dspiabs`, whose records apart from those of the operations
behind them are the model's choice (log 18). -/
def Obligations.RecordsHaveOneMeaning : Prop :=
  ∀ (r : OpRecord) (i : Instr), decode r = .ok i → i.namedOnly = none → encode i = r

/-- Tier 1, encoding (R112). The operation code alone selects the operation: whatever its other fields, a record that
decodes with one of the nine codes decodes to an operation whose ATTRIBUTES carry that code. -/
def Obligations.OperationCodeSelectsTheOperation : Prop :=
  ∀ (c : Config) (r : OpRecord) (n : Nat) (i : Instr), r.op = .code n → decode r = .ok i →
    ∃ a, i.attributes c = some a ∧ a.code = some n

/-- Tier 1, encoding. Words written out field by field decode to the operation they stand for (layout: log 17). -/
def Obligations.WrittenWordsDecode : Prop :=
  decodeTableWord 160 0x00000000000000000050001e00460000010e002d = some (.carry none 70 30 80 1) ∧
  decodeTableWord 160 0x00000000fffc0000001e000000000000011800bf = some (.uimm 0xfffc0000 30 1) ∧
  decodeTableWord 160 0xffffffffffffff0000000000000a000b051300d1 = some (.prefd (some 11) 10 (-256) 5) ∧
  decodeTableWord 160 0x000000000000000000000050000a003c0417001e = some (.hSt16d (some 60) 10 80 0 4)

/-- Tier 1, equivalence (R116, R117, R358). The scheduler's rewriting of a pseudo operation changes no operand, no
timing attribute and no effect. -/
def Obligations.SchedulingKeepsTheEffect : Prop :=
  ∀ (c : Config) (i : Instr) (s : State), exec i.schedule s = exec i s ∧
    i.schedule.attributes c = i.attributes c ∧ i.schedule.guard = i.guard ∧ i.schedule.dest = i.dest ∧
    i.schedule.slot = i.slot ∧ (∀ g a b k, i = .st16 g a b k → i.schedule = .hSt16d g a b 0 k) ∧
    ∀ g b d k, i = .dspiabs g b d k → i.schedule = .hDspiabs g 0 b d k

/-! ### The instruction step -/

/-- Tier 1. A step runs the decoded operation: an instruction of one well-formed operation runs exec of it at the
state after the results due are committed and the checks are noted, and then the program position moves on. That a check
of R352 step 3 or 5 that fires is noted and does not end the step is the model's choice (log 14). -/
def Obligations.StepRunsTheDecodedOperation : Prop :=
  ∀ (s : State) (r : OpRecord) (i : Instr), s.onTurn → s.fetch = some [r] → decode r = .ok i →
    i.wf s.cfg s.nRegs = true →
    step s = andThen (exec i (s.prepare [i])) fun t => .next ({ t with draws := t.draws + 1 }).advance

/-- Tier 2. The word placed for the fetch is the operation that the next step runs, from every state. The packed word is
the model's own (log 17), withFetchWord stands for the load from outside (log 19), and going on past the checks of R352 is
the model's choice (log 14). -/
def Obligations.StepRunsTheWordPlaced : Prop :=
  ∀ (s : State) (i : Instr), s.nRegs ≤ 2 ^ 16 → i.wf s.cfg s.nRegs = true →
    step (s.withFetchWord recordBits (encodeWord i)) =
      andThen (exec i ((s.withFetchWord recordBits (encodeWord i)).prepare [i]))
        fun t => .next ({ t with draws := t.draws + 1 }).advance

/-- Tier 2, safety (R119, R352). A well-formed instruction is never refused: with up to five operations in any slots,
it goes on, or it faults because a store touches the MMIO aperture. Where no check of R352 fires, it issues what each of
its operations issues when executed alone on the state after step 1: they do not see one another's results. Going on past
the checks is the model's choice (log 14). -/
def Obligations.WellFormedInstructionsRun : Prop :=
  ∀ (s : State) (recs : List OpRecord), s.onTurn → s.fetch = some recs →
    (∀ r ∈ recs, ∃ i, decode r = .ok i) → instructionWf s.cfg s.nRegs (operationsOf recs) = true →
    (∃ t, step s = .next t ∧ t.ip = s.ip + 1 ∧ (s.commit.firstBreach (operationsOf recs) = none →
        t.pending = s.commit.pending ++ (operationsOf recs).flatMap s.commit.issuedBy)) ∨
      step s = .fault .mmioNon32

/-- Tier 2 (R119). An instruction with no operation is admitted and issues nothing: the results due are committed and
the program position moves on by one. -/
def Obligations.EmptyInstructionDoesNothing : Prop :=
  ∀ s : State, s.onTurn → s.fetch = some [] → ∃ t, step s = .next t ∧ t.ip = s.ip + 1 ∧ t.regs = s.commit.regs ∧
    t.pcsw = s.commit.pcsw ∧ t.pending = (s.pending.filter fun p => p.due != s.ip) ∧ t.mem = s.mem ∧
    t.excPending = s.excPending ∧ t.cccountSlave = s.cccountSlave ∧ t.breach = s.breach

/-- Tier 2, safety (R113, R362). An operation code outside the nine is refused before everything else, wherever it
stands in the instruction and whatever the other operations are. -/
def Obligations.UnknownOperationCodesAreRefused : Prop :=
  ∀ (s : State) (recs : List OpRecord) (r : OpRecord) (n : Nat), s.onTurn → s.fetch = some recs → r ∈ recs →
    r.op = .code n → n ∉ [30, 45, 58, 64, 65, 121, 154, 191, 209] → step s = .refused .unknownOperation

/-- Tier 2, safety (R119, R362). A defect of form is refused as ill-formed, in an instruction whose operations are all
known: a record whose fields do not fit its code, an operation that fails a check of slot, register numbers, destination
or modifier, more than five operations, or two operations in one slot. -/
def Obligations.IllFormedInstructionsAreRefused : Prop :=
  ∀ (s : State) (recs : List OpRecord), s.onTurn → s.fetch = some recs →
    (∀ r ∈ recs, ∀ i, decode r = .ok i → i.namedOnly = none) → (∀ r ∈ recs, decode r ≠ .error .unknownOperation) →
    ((∃ r ∈ recs, decode r = .error .illFormed ∨ ∃ i, decode r = .ok i ∧ i.formOk s.cfg s.nRegs = false) ∨
      5 < recs.length ∨
      ¬ recs.Pairwise fun r q => ∀ i j, decode r = .ok i → decode q = .ok j → i.slot ≠ j.slot) →
    step s = .refused .illFormed

/-- Tier 2, safety (R151, R198, R362). The two operand values the spec refuses under names of their own: by exec, and by
step in an instruction with no other defect, for the operation in the lowest slot that has one. Likewise the register values
that a unit model should refuse (U8, U9, U11, U15). -/
def Obligations.RefusedOperandValues : Prop :=
  (∀ g a b d k s, a ≠ 0 → exec (.hDspiabs g a b d k) s = .refused .hDspiabsSrc1) ∧
  (∀ g a b d k s, d ≠ 0 → exec (.hSt16d g a b d k) s = .refused .hSt16dDisplacement) ∧
  (∀ (s : State) (recs : List OpRecord) (r : OpRecord) (i : Instr), s.onTurn → s.fetch = some recs → r ∈ recs →
    decode r = .ok i → recs.length ≤ 5 → slotsDistinct (operationsOf recs) = true →
    (∀ q ∈ recs, ∃ j, decode q = .ok j ∧ j.namedOnly = none ∧ j.formOk s.cfg s.nRegs = true ∧
      (j.slot < i.slot → j.firstArgumentOk = true ∧ j.displacementOk = true)) →
    (i.firstArgumentOk = false → step s = .refused .hDspiabsSrc1) ∧
      (i.displacementOk = false → step s = .refused .hSt16dDisplacement)) ∧
  (∀ (s : State) (w : VoCtlWrite), w.mode = .messagePassing → (w.reset = true → w.voEnable = false) →
    (w.enables.bfr2Empty = true ∨ w.enables.urun = true ∨ w.enables.ytr = true) →
    unitEvent (.evoWriteCtl w) s = .refused .voMessageModeIntens) ∧
  (∀ (s : State) (t : VoTiming), t.videoPixelStart % 2 = 1 →
    unitEvent (.evoWriteTiming t) s = .refused .voPixelStartOdd) ∧
  (∀ (s : State) (v : Word), s.units.vi.mode = .messagePassing → s.units.vi.softReset = false →
    unitEvent (.viWriteSize v) s = .refused .viSizeWithoutReset) ∧
  ∀ (s : State) (p : IcpParameters), (p.control.extractLsb 7 6 = 3 ∨ 8 ≤ (p.control.extractLsb 3 0).toNat) →
    unitEvent (.icpLoadParameters p) s = .refused .icpUnlistedFormat

/-- Tier 1 (R215, R217 to R222). The operations that the source names and does not define stop by name on every path. -/
def Obligations.NamedOnlyOperationsAreRefused : Prop :=
  ∀ (k : Nat) (s : State),
    exec (.uclipi k) s = .refused (.unspecifiedOperation .uclipi) ∧
    exec (.hicycles k) s = .refused (.unspecifiedOperation .hicycles) ∧
    exec (.ifixieeeflags k) s = .refused (.unspecifiedOperation .ifixieeeflags) ∧
    exec (.writedpc k) s = .refused (.unspecifiedOperation .writedpc) ∧
    exec (.writepcsw k) s = .refused (.unspecifiedOperation .writepcsw) ∧
    exec (.writespc k) s = .refused (.unspecifiedOperation .writespc) ∧
    exec (.uleqi k) s = .refused (.unspecifiedOperation .uleqi) ∧
    exec (.ules k) s = .refused (.unspecifiedOperation .ules) ∧
    exec (.ulesi k) s = .refused (.unspecifiedOperation .ulesi) ∧
    exec (.ume8uu k) s = .refused (.unspecifiedOperation .ume8uu) ∧
    exec (.umin k) s = .refused (.unspecifiedOperation .umin) ∧
    exec (.umul k) s = .refused (.unspecifiedOperation .umul) ∧
    exec (.umulm k) s = .refused (.unspecifiedOperation .umulm) ∧
    exec (.uneq k) s = .refused (.unspecifiedOperation .uneq) ∧
    exec (.uneqi k) s = .refused (.unspecifiedOperation .uneqi) ∧
    exec (.zex16 k) s = .refused (.unspecifiedOperation .zex16) ∧
    exec (.zex8 k) s = .refused (.unspecifiedOperation .zex8) ∧
    exec (.alloc k) s = .refused (.unspecifiedOperation .alloc) ∧
    exec (.allocd k) s = .refused (.unspecifiedOperation .allocd) ∧
    exec (.allocr k) s = .refused (.unspecifiedOperation .allocr) ∧
    exec (.allocx k) s = .refused (.unspecifiedOperation .allocx)

/-- Tier 2, safety (R215, R217 to R222, R362). An instruction that holds an operation that is only named, and no
unknown operation code, is refused by step as unspecified. -/
def Obligations.StepRefusesNamedOnlyOperations : Prop :=
  ∀ (s : State) (recs : List OpRecord), s.onTurn → s.fetch = some recs →
    (∀ r ∈ recs, decode r ≠ .error .unknownOperation) →
    (∃ r ∈ recs, ∃ i, decode r = .ok i ∧ i.namedOnly.isSome = true) →
    ∃ m, step s = .refused (.unspecifiedOperation m) ∧
      ∃ r ∈ recs, ∃ i, decode r = .ok i ∧ i.namedOnly = some m

/-- Tier 2 (R35, R55, R352). At the end of the run the results in flight are drained in order of `due`: their flags are
OR-ed into PCSW, whose other fields stay, nothing else changes but their registers, and from then on the state stays. That
it stays, rather than that there is no next state, is the model's choice (log 19). -/
def Obligations.EndOfRunDrains : Prop :=
  ∀ s : State, s.onTurn → s.fetch = none →
    ∃ t, step s = .next t ∧ step t = .next t ∧
      t = { s with
        regs := t.regs
        written := t.written
        pending := []
        pcsw := { s.pcsw with
          ifz := s.pcsw.ifz || s.pending.any (·.flags.ifz)
          inx := s.pcsw.inx || s.pending.any (·.flags.inx)
          inv := s.pcsw.inv || s.pending.any (·.flags.inv) } } ∧
      (∀ p ∈ s.pending, p.dest < s.nRegs →
        (∀ q ∈ s.pending, q.dest = p.dest → q.due < p.due ∨ q.value = p.value) → t.fileReg p.dest = p.value) ∧
      ∀ r, (∀ p ∈ s.pending, p.dest ≠ r) → t.fileReg r = s.fileReg r

/-! ### Operations with a result: every one goes on, in every state -/

/-- Tier 1 (R130). `carry`. -/
def Obligations.CarryResult : Prop :=
  ∀ (c : Config) (g : Option RegNo) (a b d : RegNo) (k : Nat) (s : State),
    decode ⟨.code 45, g, some a, some b, some d, none, k⟩ = .ok (.carry g a b d k) ∧
    (Instr.carry g a b d k).attributes c = some ⟨some .alu, some 45, some 1, [1, 2, 3, 4, 5]⟩ ∧
    (s.guardHolds g = true → exec (.carry g a b d k) s = .next (s.issue d 1
      (if (s.readReg a).toNat + (s.readReg b).toNat < 2 ^ 32 then 0x00000000 else 0x00000001)
      ⟨false, false, false⟩)) ∧
    (s.guardHolds g = false → exec (.carry g a b d k) s = .next s)

/-- Tier 1 (R132). `mergemsb`. -/
def Obligations.MergemsbResult : Prop :=
  ∀ (c : Config) (g : Option RegNo) (a b d : RegNo) (k : Nat) (s : State),
    decode ⟨.code 58, g, some a, some b, some d, none, k⟩ = .ok (.mergemsb g a b d k) ∧
    (Instr.mergemsb g a b d k).attributes c = some ⟨some .alu, some 58, some 1, [1, 2, 3, 4, 5]⟩ ∧
    (s.guardHolds g = true → ∃ v, exec (.mergemsb g a b d k) s = .next (s.issue d 1 v ⟨false, false, false⟩) ∧
      v.extractLsb 31 24 = (s.readReg a).extractLsb 31 24 ∧ v.extractLsb 23 16 = (s.readReg b).extractLsb 31 24 ∧
      v.extractLsb 15 8 = (s.readReg a).extractLsb 23 16 ∧ v.extractLsb 7 0 = (s.readReg b).extractLsb 23 16) ∧
    (s.guardHolds g = false → exec (.mergemsb g a b d k) s = .next s)

/-- Tier 2 (R153). `ume8ii`: the sum of the absolute differences of the four signed bytes, at most 0x3fc and
symmetric in its sources. -/
def Obligations.Ume8iiResult : Prop :=
  ∀ (c : Config) (g : Option RegNo) (a b d : RegNo) (k : Nat) (s : State),
    decode ⟨.code 64, g, some a, some b, some d, none, k⟩ = .ok (.ume8ii g a b d k) ∧
    (Instr.ume8ii g a b d k).attributes c = some ⟨some .dspalu, some 64, some 2, [1, 3]⟩ ∧
    (s.guardHolds g = true → ∃ v, exec (.ume8ii g a b d k) s = .next (s.issue d 2 v ⟨false, false, false⟩) ∧
      v.toNat = (((s.readReg a).extractLsb 31 24).toInt - ((s.readReg b).extractLsb 31 24).toInt).natAbs +
        (((s.readReg a).extractLsb 23 16).toInt - ((s.readReg b).extractLsb 23 16).toInt).natAbs +
        (((s.readReg a).extractLsb 15 8).toInt - ((s.readReg b).extractLsb 15 8).toInt).natAbs +
        (((s.readReg a).extractLsb 7 0).toInt - ((s.readReg b).extractLsb 7 0).toInt).natAbs ∧
      v.toNat ≤ 0x3fc ∧ exec (.ume8ii g b a d k) s = exec (.ume8ii g a b d k) s) ∧
    (s.guardHolds g = false → exec (.ume8ii g a b d k) s = .next s)

/-- Tier 2 (R150, R152). `h_dspiabs` and `dspiabs`: the absolute value clipped to [0, 2^31 - 1], on every operand. -/
def Obligations.DspiabsResult : Prop :=
  ∀ (c : Config) (g : Option RegNo) (b d : RegNo) (k : Nat) (s : State),
    decode ⟨.code 65, g, some 0, some b, some d, none, k⟩ = .ok (.hDspiabs g 0 b d k) ∧
    (Instr.hDspiabs g 0 b d k).attributes c = some ⟨some .dspalu, some 65, some 2, [1, 3]⟩ ∧
    exec (.dspiabs g b d k) s = exec (.hDspiabs g 0 b d k) s ∧
    (s.guardHolds g = true → ∃ v, exec (.hDspiabs g 0 b d k) s = .next (s.issue d 2 v ⟨false, false, false⟩) ∧
      v.toInt = min |(s.readReg b).toInt| (2 ^ 31 - 1) ∧ v.getLsbD 31 = false) ∧
    (s.guardHolds g = false → exec (.hDspiabs g 0 b d k) s = .next s)

/-- Tier 1 (R140). `cycles`. -/
def Obligations.CyclesResult : Prop :=
  ∀ (c : Config) (g : Option RegNo) (d : RegNo) (k : Nat) (s : State),
    decode ⟨.code 154, g, none, none, some d, none, k⟩ = .ok (.cycles g d k) ∧
    (Instr.cycles g d k).attributes c = some ⟨some .fcomp, some 154, some 1, [3]⟩ ∧
    (s.guardHolds g = true → exec (.cycles g d k) s =
      .next (s.issue d 1 (s.cccountSlave.extractLsb 31 0) ⟨false, false, false⟩)) ∧
    (s.guardHolds g = false → exec (.cycles g d k) s = .next s)

/-- Tier 1 (R210). `uimm`: never guarded; the modifier is written unchanged. -/
def Obligations.UimmResult : Prop :=
  ∀ (c : Config) (n : Nat) (d : RegNo) (k : Nat) (s : State),
    decode ⟨.code 191, none, none, none, some d, some n, k⟩ = .ok (.uimm n d k) ∧
    (∀ (r : RegNo) (m : Int), decode ⟨.code 191, some r, none, none, some d, some m, k⟩ = .error .illFormed) ∧
    (Instr.uimm n d k).attributes c = some ⟨some .const, some 191, some 1, [1, 2, 3, 4, 5]⟩ ∧
    ∃ v, exec (.uimm n d k) s = .next (s.issue d 1 v ⟨false, false, false⟩) ∧ (n < 2 ^ 32 → v.toNat = n)

/-- Tier 1 (R155). `quadavg`, lane by lane; latency and slots are the parameters of D27. -/
def Obligations.QuadavgResult : Prop :=
  ∀ (c : Config) (g : Option RegNo) (a b d : RegNo) (k : Nat) (s : State),
    decode ⟨.textual .quadavg, g, some a, some b, some d, none, k⟩ = .ok (.quadavg g a b d k) ∧
    (Instr.quadavg g a b d k).attributes c = some ⟨none, none, some c.quadavgLatency, c.quadavgSlots⟩ ∧
    (s.guardHolds g = true →
      ∃ v, exec (.quadavg g a b d k) s = .next (s.issue d s.cfg.quadavgLatency v ⟨false, false, false⟩) ∧
        ∀ j < 4, (v.extractLsb' (8 * j) 8).toNat =
          (((s.readReg a).extractLsb' (8 * j) 8).toNat + ((s.readReg b).extractLsb' (8 * j) 8).toNat + 1) / 2) ∧
    (s.guardHolds g = false → exec (.quadavg g a b d k) s = .next s)

/-- Tier 1 (R157, R159). `dspuquadaddui`, lane by lane; the two-sided clip to [0, 255] is the spec's recovery of `uclipi`
(log 39, DEDUCED), and latency and slots are the parameters of D27. -/
def Obligations.DspuquadadduiResult : Prop :=
  ∀ (c : Config) (g : Option RegNo) (a b d : RegNo) (k : Nat) (s : State),
    decode ⟨.textual .dspuquadaddui, g, some a, some b, some d, none, k⟩ = .ok (.dspuquadaddui g a b d k) ∧
    (Instr.dspuquadaddui g a b d k).attributes c =
      some ⟨none, none, some c.dspuquadadduiLatency, c.dspuquadadduiSlots⟩ ∧
    (s.guardHolds g = true →
      ∃ v, exec (.dspuquadaddui g a b d k) s =
          .next (s.issue d s.cfg.dspuquadadduiLatency v ⟨false, false, false⟩) ∧
        ∀ j < 4, ((v.extractLsb' (8 * j) 8).toNat : Int) =
          min (max (((s.readReg a).extractLsb' (8 * j) 8).toNat + ((s.readReg b).extractLsb' (8 * j) 8).toInt) 0)
            255) ∧
    (s.guardHolds g = false → exec (.dspuquadaddui g a b d k) s = .next s)

/-- Tier 2, equivalence (R158). For every lane, `dspuquadaddui` of `quadavg` is the destination byte that the C code of
Figure 4-4 computes. -/
def Obligations.MpegKernelMatchesFigure44 : Prop :=
  ∀ (back forward idct : Word) (j : Nat), j < 4 →
    ((byteOf (dspuquadadduiValue (quadavgValue back forward) idct) j).toNat : Int) =
      figure44Pixel (byteOf back j) (byteOf forward j) (byteOf idct j)

/-- Tier 1 (R170). `ifixieee` goes on in every state; the result and its flags are issued together (R175). -/
def Obligations.IfixieeeIssuesResultAndFlags : Prop :=
  ∀ (c : Config) (g : Option RegNo) (a d : RegNo) (k : Nat) (s : State),
    decode ⟨.code 121, g, some a, none, some d, none, k⟩ = .ok (.ifixieee g a d k) ∧
    (Instr.ifixieee g a d k).attributes c = some ⟨some .falu, some 121, some 3, [1, 4]⟩ ∧
    (s.guardHolds g = true → exec (.ifixieee g a d k) s =
      .next (s.issue d 3 (ifixieeeResult s.pcsw.rm (s.readReg a)).1 (ifixieeeResult s.pcsw.rm (s.readReg a)).2)) ∧
    (s.guardHolds g = false → exec (.ifixieee g a d k) s = .next s)

/-- Tier 1 (R171, R173). The operands with no integer image: denormals, NaNs and +INF; that -INF gives 0x80000000 is the
spec's own inference (D14, log 21). -/
def Obligations.IfixieeeSpecialOperands : Prop :=
  ∀ (mode : RoundingMode) (v : Word),
    (fpExp v = 0 → fpFrac v ≠ 0 → ifixieeeResult mode v = (0, ⟨true, false, false⟩)) ∧
    (fpExp v = 0 → fpFrac v = 0 → ifixieeeResult mode v = (0, ⟨false, false, false⟩)) ∧
    (fpExp v = 255 → fpFrac v ≠ 0 → ifixieeeResult mode v = (0, ⟨false, false, true⟩)) ∧
    ifixieeeResult mode 0x7f800000 = (0x7fffffff, ⟨false, false, true⟩) ∧
    ifixieeeResult mode 0xff800000 = (0x80000000, ⟨false, false, true⟩)

/-- Tier 2 (R170, R172, R174). A normal operand is rounded in the mode of PCSW as the exact rational it stands for: in
range, the result is the rounded integer and INX says whether it differs from the value; out of range, the nearest end
of the range and INV alone. -/
def Obligations.IfixieeeRoundsTheExactValue : Prop :=
  ∀ (mode : RoundingMode) (v : Word), isNormal v → ∃ n : Int, RoundsTo mode (fpValue v) n ∧
    (2 ^ 31 - 1 < n → ifixieeeResult mode v = (0x7fffffff, ⟨false, false, true⟩)) ∧
    (n < -2 ^ 31 → ifixieeeResult mode v = (0x80000000, ⟨false, false, true⟩)) ∧
    (-2 ^ 31 ≤ n → n ≤ 2 ^ 31 - 1 → ∃ x inx, ifixieeeResult mode v = (x, ⟨false, inx, false⟩) ∧ x.toInt = n ∧
      (inx = true ↔ (n : ℚ) ≠ fpValue v))

/-- Tier 2 (R174). Every operand of magnitude 2^23 or more converts without INX, in every rounding mode alike. -/
def Obligations.IfixieeeLargeOperandsAreExact : Prop :=
  ∀ (mode mode' : RoundingMode) (v : Word), 150 ≤ fpExp v →
    ifixieeeResult mode v = ifixieeeResult mode' v ∧ (ifixieeeResult mode v).2.inx = false

/-! ### Guards, results in flight, latency -/

/-- Tier 2 (R10, R34, R196). Under a false guard every operation that is not refused for an operand value does nothing
at all: no register, flag, result in flight or byte of memory changes, whatever the address. -/
def Obligations.FalseGuardDoesNothing : Prop :=
  ∀ (i : Instr) (r : RegNo) (s : State), i.guard = some r → (s.readReg r).getLsbD 0 = false →
    i.firstArgumentOk = true → i.displacementOk = true → exec i s = .next s

/-- Tier 1 (R352 step 5 e). A result with no other result for its register in flight joins the results in flight as it
is, due its latency later; nothing else changes. -/
def Obligations.UncontestedResultIsIssued : Prop :=
  ∀ (s : State) (d : RegNo) (l : Nat) (v : Word) (f : FpFlags), (∀ p ∈ s.pending, p.dest ≠ d) →
    s.issue d l v f = { s with pending := s.pending ++ [⟨s.ip + l, s.ip, d, v, f⟩] }

/-- Tier 2. The model's choice of log 12 for R353 and R355 (a): where results contend for one register, each of them
becomes a free value, and the due times, destinations and flags of all, and the values of the others, stay. -/
def Obligations.ContestedResultsBecomeFree : Prop :=
  ∀ (s : State) (d : RegNo) (l : Nat) (v : Word) (f : FpFlags), (∃ p ∈ s.pending, p.dest = d) →
    ∃ ps, s.issue d l v f = { s with pending := ps } ∧
      List.Forall₂ (fun (p q : InFlight) => q.due = p.due ∧ q.dest = p.dest ∧ q.flags = p.flags ∧
          q.value = if p.dest = d then Config.contestedResult s.draws p.issued p.value else p.value)
        (s.pending ++ [⟨s.ip + l, s.ip, d, v, f⟩]) ps

/-- Tier 2 (R350, R352 step 1). A result reaches its register, and its flags PCSW, at the instruction at which it is due,
whatever that instruction does. -/
def Obligations.ResultsReachTheirRegisterWhenDue : Prop :=
  ∀ (s t : State) (recs : List OpRecord) (p : InFlight), s.onTurn → s.fetch = some recs → step s = .next t →
    p ∈ s.pending → p.due = s.ip → p.dest < s.nRegs → (∀ q ∈ s.pending, q.dest = p.dest → q.value = p.value) →
    t.fileReg p.dest = p.value ∧ (p.flags.ifz = true → t.pcsw.ifz = true) ∧
      (p.flags.inx = true → t.pcsw.inx = true) ∧ (p.flags.inv = true → t.pcsw.inv = true)

/-- Tier 2 (R352 step 1). A register with no result due keeps its content through an instruction. -/
def Obligations.RegistersWithoutResultDueAreUnchanged : Prop :=
  ∀ (s t : State) (recs : List OpRecord) (r : RegNo), s.onTurn → s.fetch = some recs → step s = .next t →
    (∀ p ∈ s.pending, p.due = s.ip → p.dest ≠ r) → t.fileReg r = s.fileReg r

/-- Tier 2 (R210, R350). A constant written by `uimm` is what the next instruction leaves in the register, and what the
operations of that instruction read, whatever the next instruction is. -/
def Obligations.UimmIsVisibleToTheNextInstruction : Prop :=
  ∀ (s t u : State) (n : Nat) (d : RegNo) (k : Nat) (recs : List OpRecord), s.onTurn →
    s.fetch = some [encode (.uimm n d k)] → (Instr.uimm n d k).wf s.cfg s.nRegs = true →
    (∀ p ∈ s.pending, p.dest = d → p.due = s.ip) → step s = .next t → t.fetch = some recs →
    (t.commit).readReg d = BitVec.ofNat 32 n ∧ (step t = .next u → u.fileReg d = BitVec.ofNat 32 n)

/-- Tier 2 (R33, R352 step 3, R353). An operation that fails no check of its reads reads defined values: its guard register,
under either guard, and each source under a true guard, is hard-wired or holds what the register file holds; no free value
enters. -/
def Obligations.CheckedReadsAreDefined : Prop :=
  ∀ (s : State) (i : Instr), s.checkReads i = none →
    (∀ r, i.guard = some r → s.defined r) ∧ (s.guardHolds i.guard = true → ∀ r ∈ i.sources, s.defined r)

/-- Tier 2 (R31, R32; that `r0` reads 0 is the spec's own reading, D3). A read of `r0` returns 0 at all times; a read of `r1`
returns 1 under R1_IS_ONE and is that of an ordinary register without it; an instruction that holds, among operations that
are all known, one with destination 0 or 1 is refused. -/
def Obligations.HardwiredRegisters : Prop :=
  ∀ s : State, s.readReg 0 = 0x00000000 ∧ (s.cfg.r1IsOne = true → s.readReg 1 = 0x00000001) ∧
    (s.cfg.r1IsOne = false → s.inWindow 1 = false → s.readReg 1 = s.fileReg 1) ∧
    ∀ (recs : List OpRecord) (r : OpRecord) (i : Instr), s.onTurn → s.fetch = some recs → r ∈ recs →
      (∀ q ∈ recs, decode q ≠ .error .unknownOperation) → (∀ q ∈ recs, ∀ j, decode q = .ok j → j.namedOnly = none) →
      decode r = .ok i → (i.dest = some 0 ∨ i.dest = some 1) → step s = .refused .illFormed

/-! ### Memory and the Misaligned Store Exception -/

/-- Tier 2 (R74, R194, R355). `st16` and `h_st16d(0)`: an aligned store outside the MMIO aperture goes on: the two bytes at
the address hold the stored halfword in the order of PCSW.bytesex, every other byte and all other state is unchanged. The
halfword is the low half of `rsrc2` where no earlier store of the same instruction overlaps it; that it is a free value,
and the step goes on, where one does, is the model's choice (log 13). Under a false guard both do nothing. -/
def Obligations.AlignedStoreWritesTwoBytes : Prop :=
  ∀ (c : Config) (g : Option RegNo) (a b : RegNo) (k : Nat) (s : State),
    decode ⟨.code 30, g, some a, some b, none, none, k⟩ = .ok (.st16 g a b k) ∧
    decode ⟨.code 30, g, some a, some b, none, some 0, k⟩ = .ok (.hSt16d g a b 0 k) ∧
    (Instr.st16 g a b k).attributes c = some ⟨some .dmem, some 30, none, [4, 5]⟩ ∧
    (Instr.hSt16d g a b 0 k).attributes c = some ⟨some .dmem, some 30, none, [4, 5]⟩ ∧
    (s.guardHolds g = false → exec (.st16 g a b k) s = .next s ∧ exec (.hSt16d g a b 0 k) s = .next s) ∧
    (s.guardHolds g = true → (s.readReg a).toNat % 2 = 0 →
      inMmio s.cfg (s.readReg a) = false → inMmio s.cfg (s.readReg a + 1) = false →
      ∃ (t : State) (h : Half), exec (.st16 g a b k) s = .next t ∧ exec (.hSt16d g a b 0 k) s = .next t ∧
        t = { s with mem := t.mem, stored := s.stored ++ [s.readReg a] } ∧
        ((∀ x ∈ s.stored, halvesOverlap (s.readReg a) x = false) → h = (s.readReg b).extractLsb' 0 16) ∧
        ((∃ x ∈ s.stored, halvesOverlap (s.readReg a) x = true) →
          h = Config.contestedHalf s.draws (s.readReg a) ((s.readReg b).extractLsb' 0 16)) ∧
        (let lowest := (s.readReg a).toNat
         (s.pcsw.bytesex = .little → t.mem.read lowest = some (h.extractLsb' 0 8) ∧
            t.mem.read (lowest + 1) = some (h.extractLsb' 8 8)) ∧
         (s.pcsw.bytesex = .big → t.mem.read lowest = some (h.extractLsb' 8 8) ∧
            t.mem.read (lowest + 1) = some (h.extractLsb' 0 8)) ∧
         ∀ x, x ≠ lowest → x ≠ lowest + 1 → t.mem.read x = s.mem.read x))

/-- Tier 2 (R195, R240, R243, R249; log 10: the run goes on, and the bytes it changes are free). A misaligned store, in the
MMIO aperture or outside it, sets MSE and, with TRPMSE, requests exception processing; bytes outside the free ones, and all
other state, are unchanged. -/
def Obligations.MisalignedStoreRaisesTheException : Prop :=
  ∀ (g : Option RegNo) (a b : RegNo) (k : Nat) (s : State), s.guardHolds g = true → (s.readReg a).toNat % 2 = 1 →
    exec (.hSt16d g a b 0 k) s = exec (.st16 g a b k) s ∧
    ∃ t, exec (.st16 g a b k) s = .next t ∧
      t = { s with pcsw := { s.pcsw with mse := true }, excPending := s.excPending || s.pcsw.trpmse,
                   mem := t.mem, stored := s.stored ++ [s.readReg a] } ∧
      ∀ x, (∀ c ∈ Config.misalignedCells s.draws (s.readReg a) (s.readReg b), x ≠ c.1.toNat) →
        t.mem.read x = s.mem.read x

/-- Tier 1 (R72, R197, R249). An aligned store with a true guard either of whose two byte addresses lies in the MMIO aperture
faults; of a misaligned one the misalignment comes first (MisalignedStoreRaisesTheException). -/
def Obligations.StoreToMmioFaults : Prop :=
  ∀ (g : Option RegNo) (a b : RegNo) (k : Nat) (s : State), s.guardHolds g = true → (s.readReg a).toNat % 2 = 0 →
    (inMmio s.cfg (s.readReg a) = true ∨ inMmio s.cfg (s.readReg a + 1) = true) →
    exec (.st16 g a b k) s = .fault .mmioNon32 ∧ exec (.hSt16d g a b 0 k) s = .fault .mmioNon32

/-- Tier 1 (R190, R191). `prefd` changes no state, under either guard, executed or dropped. -/
def Obligations.PrefdChangesNothing : Prop :=
  ∀ (c : Config) (g : Option RegNo) (a : RegNo) (d : Int) (k : Nat) (s : State),
    decode ⟨.code 209, g, some a, none, none, some d, k⟩ = .ok (.prefd g a d k) ∧
    (Instr.prefd g a d k).attributes c = some ⟨some .dmemspec, some 209, none, [5]⟩ ∧
    exec (.prefd g a d k) s = .next s

/-- Tier 2 (R190). The block that `prefd` asks for starts at a multiple of the block size, at or below the address
computed and less than a block from it, for every block size that is a power of two. -/
def Obligations.PrefdBlockHoldsTheAddress : Prop :=
  ∀ (c : Config) (n : Nat) (x : Word) (d : Int), c.cacheBlockSize = 2 ^ n → n < 32 →
    (prefdBlock c x d).toNat % 2 ^ n = 0 ∧ (prefdBlock c x d).toNat ≤ (displaced x d).toNat ∧
      (displaced x d).toNat < (prefdBlock c x d).toNat + 2 ^ n

/-- Tier 2, safety. Memory changes through stores only: an instruction of the DSPCPU with no store leaves every byte. -/
def Obligations.OnlyStoresChangeMemory : Prop :=
  ∀ (s t : State) (recs : List OpRecord), s.onTurn → s.fetch = some recs → step s = .next t →
    (∀ r ∈ recs, ∀ i, decode r = .ok i → i.storeAddressReg = none) → t.mem = s.mem

/-- Tier 3, safety (R240). The one synchronous exception: whatever step sets MSE, or requests exception processing, is an
instruction that holds a 16-bit store. -/
def Obligations.OnlyStoresRaiseTheException : Prop :=
  ∀ s t : State, step s = .next t →
    ((s.pcsw.mse = false ∧ t.pcsw.mse = true) ∨ (s.excPending = false ∧ t.excPending = true)) →
    s.onTurn ∧ t.pcsw.mse = true ∧ ∃ recs r i, s.fetch = some recs ∧ r ∈ recs ∧ decode r = .ok i ∧
      i.storeAddressReg.isSome = true

/-! ### Whole-machine rules -/

/-- Tier 1, invariant. The state after reset is sound, the address registers of its units are aligned, and the output units
are sound. -/
def Obligations.ResetIsSound : Prop :=
  State.reset.Inv ∧ State.reset.unitsAligned ∧ State.reset.unitsSound

/-- Tier 1 (R341). After processor reset the slave CCCOUNT equals the master. -/
def Obligations.ResetSamplesCccount : Prop :=
  State.reset.cccountSlave = State.reset.cccountMaster ∧ State.reset.sampleCccount = State.reset

/-- Tier 3, invariant. Every step, of the DSPCPU or of a unit, from every sound state, leaves a sound state: memory in
canonical form, at least 126 registers, a legal configuration, every result in flight due now or later and for a
writable register, no instruction half done. -/
def Obligations.EveryStepKeepsTheInvariant : Prop :=
  ∀ s t : State, s.Inv → step s = .next t → t.Inv

/-- Tier 3, invariant (R267, R300; R285, R287, R292, R318, R319, R321, R322, R326 to R328). Every step keeps the six LSBs of
the capture units' address and size registers 0, and keeps the output units sound: the Enhanced Video Out in the register
values the source admits; the Image Coprocessor in listed formats, with the alpha registers loaded from the Alpha field and
the scaling counters as many increments from their start fractions as its place in the line says (that they move by the
increment, and the U and V counters every other pixel in the UVYY sequence, is log 32); on the PCI-XIO bus every transfer
carrying its byte in a word of its own, without parity, with IORD or IOWR for its direction (DS for both: log 33). -/
def Obligations.EveryStepKeepsUnitsAligned : Prop :=
  (∀ s t : State, s.unitsAligned → step s = .next t → t.unitsAligned) ∧
  ∀ s t : State, s.unitsSound → step s = .next t → t.unitsSound

/-- Tier 2 (R46, R357). No step changes the slave CCCOUNT, there being no jump; so a `cycles` after any step gives the
value that a `cycles` before it gives. -/
def Obligations.SlaveCccountNeverChanges : Prop :=
  ∀ s t : State, step s = .next t →
    t.cccountSlave = s.cccountSlave ∧ ∀ d k, exec (.cycles none d k) t =
      .next (t.issue d 1 (s.cccountSlave.extractLsb 31 0) ⟨false, false, false⟩)

/-- Tier 2 (R42, R43, R53). PCSW over every step: the control fields and OVF, UNF keep their value, and MSE and the
sticky flags are never cleared. That OVF and UNF keep their value is the spec's own choice (R177, D13, log 21), and that MSE
is sticky is its reading by analogy (R39). -/
def Obligations.PcswFlagsAreSticky : Prop :=
  ∀ s t : State, step s = .next t →
    t.pcsw.cs = s.pcsw.cs ∧ t.pcsw.bytesex = s.pcsw.bytesex ∧ t.pcsw.trpmse = s.pcsw.trpmse ∧ t.pcsw.rm = s.pcsw.rm ∧
      t.pcsw.ovf = s.pcsw.ovf ∧ t.pcsw.unf = s.pcsw.unf ∧
      (s.pcsw.mse = true → t.pcsw.mse = true) ∧ (s.pcsw.ifz = true → t.pcsw.ifz = true) ∧
      (s.pcsw.inx = true → t.pcsw.inx = true) ∧ (s.pcsw.inv = true → t.pcsw.inv = true)

/-- Tier 2 (R53, R89). No step changes the configuration, the program, DPC or SPC; a pending exception request and a
recorded breach are never cleared (R47; log 14). An instruction that goes on records the first check of R352 that fires,
where none is recorded yet, and nothing where none fires; then its outcome is the one that R352 and R362 rule, and where a
check fires they rule the outcome that the record names (the record, and going on, are the model's choice of log 14). A
step of a unit, or after the last instruction, records nothing. -/
def Obligations.ConfigurationAndRequestsStay : Prop :=
  ∀ s t : State, step s = .next t →
    t.cfg = s.cfg ∧ t.program = s.program ∧ t.dpc = s.dpc ∧ t.spc = s.spc ∧ t.nRegs = s.nRegs ∧
      (s.excPending = true → t.excPending = true) ∧ (s.breach ≠ none → t.breach = s.breach) ∧
      (∀ recs, s.onTurn → s.fetch = some recs → s.commit.firstBreach (operationsOf recs) = none →
        t.breach = s.breach ∧ ruledStep s = .next t) ∧
      (∀ recs b, s.onTurn → s.fetch = some recs → s.commit.firstBreach (operationsOf recs) = some b →
        (s.breach = none → t.breach = some b) ∧ ruledStep s = b.outcome) ∧
      ((s.onTurn → s.fetch = none) → t.breach = s.breach ∧ ruledStep s = .next t)

/-- Tier 2 (R37, R45). The master CCCOUNT: an instruction with PCSW.CS = 0 adds its non-stall cycles, with CS = 1 its stall
cycles too; how many there are is free (log 6), drawn with a number that no earlier instruction drew with. -/
def Obligations.MasterCccountCountsCycles : Prop :=
  ∀ (s t : State) (recs : List OpRecord), s.onTurn → s.fetch = some recs → step s = .next t →
    ∃ draw, s.draws ≤ draw ∧ t.draws = draw + 1 ∧
      (s.pcsw.cs = false → t.cccountMaster = s.cccountMaster + BitVec.ofNat 64 (Config.nonStallCycles draw)) ∧
      (s.pcsw.cs = true → t.cccountMaster =
        s.cccountMaster + BitVec.ofNat 64 (Config.nonStallCycles draw + Config.stallCycles draw))

/-! ### On-chip units -/

/-- Tier 2, noninterference (R330). A unit's turn leaves the DSPCPU's state alone: registers, PCSW, results in flight,
program position, CCCOUNT, the exception request. -/
def Obligations.UnitTurnsLeaveTheDspcpu : Prop :=
  ∀ (s t : State) (e : UnitEvent) (rest : List UnitEvent), s.agenda = e :: rest → step s = .next t →
    t = { s with agenda := rest, units := t.units, mem := t.mem, globalPowerDown := t.globalPowerDown }

/-- Tier 2 (R263, R264). When the sample that fills the active buffer of Video In arrives, its full flag is asserted; if
the other buffer has been acknowledged, capture continues there, else OVERRUN is raised and capture stops. That
with VI_SIZE = 0 every sample fills the buffer is the model's choice (log 24). -/
def Obligations.VideoInExchangesBuffers : Prop :=
  ∀ (u : VideoIn) (x : BitVec 10) (m : Memory), u.capturesRaw = true → u.capture.size.toNat ≤ u.capture.captured + 1 →
    (u.sample x m).1.flags.full u.capture.active = true ∧
    (u.flags.full u.capture.active.other = false →
      (u.sample x m).1.capture = startBuffer u.capture.active.other u.base1 u.base2 u.size ∧
      (u.sample x m).1.flags.overrun = u.flags.overrun) ∧
    (u.flags.full u.capture.active.other = true →
      (u.sample x m).1.capture.running = false ∧ (u.sample x m).1.flags.overrun = true ∧
      ∀ y n, (u.sample x m).1.sample y n = ((u.sample x m).1, n))

/-- Tier 1 (R266). A write of VI_BASE1, VI_BASE2 or VI_SIZE has no effect on the buffer in use: capture goes on with its
copies. -/
def Obligations.VideoInRegistersAreShadowed : Prop :=
  ∀ (s t : State) (e : UnitEvent) (v : Word), (e = .viWriteBase1 v ∨ e = .viWriteBase2 v ∨ e = .viWriteSize v) →
    unitEvent e s = .next t → t.units.vi.capture = s.units.vi.capture

/-- Tier 1 (R247, R303). An acknowledge of Audio In or Video In clears OVERRUN exactly when it has the ACK_OVR bit: ACK1 and
ACK2 do not affect it. -/
def Obligations.OverrunIsClearedByItsAcknowledgeAlone : Prop :=
  ∀ (s t : State) (b : CaptureBits), (unitEvent (.aiAck b) s = .next t →
      t.units.ai.flags.overrun = (s.units.ai.flags.overrun && !b.overrun)) ∧
    (unitEvent (.viAck b) s = .next t → t.units.vi.flags.overrun = (s.units.vi.flags.overrun && !b.overrun))

/-- Tier 1 (R305). HBE of Audio In gets set when the input register is full, the 64-byte buffer has not been written and a
new sample arrives; a sample that finds room never sets it. -/
def Obligations.AudioInHighwayError : Prop :=
  ∀ (u : AudioIn) (x : Word), u.samples = true → u.flags.hbe = false →
    ((u.sample x).flags.hbe = true ↔ u.inputRegister.isSome = true ∧ 64 ≤ u.internalBuffer.length)

/-- Tier 1 (R248; for Video In and the Enhanced Video Out by the parallel of log 35). A unit's request line is asserted
exactly when some enabled condition is set, so that under an acknowledge of some of them it stays asserted until every one is
acknowledged. -/
def Obligations.RequestLineIsLevelSensitive : Prop :=
  (∀ u : AudioIn, (u.requests = false ↔ (u.flags.buf1Full = true → u.enables.buf1Full = false) ∧
      (u.flags.buf2Full = true → u.enables.buf2Full = false) ∧ (u.flags.overrun = true → u.enables.overrun = false) ∧
      (u.flags.hbe = true → u.enables.hbe = false)) ∧
    (u.acknowledge u.flags).requests = false ∧
    ∀ acks : CaptureBits, ((u.acknowledge acks).requests = true ↔
      (u.flags.buf1Full = true ∧ u.enables.buf1Full = true ∧ acks.buf1Full = false) ∨
      (u.flags.buf2Full = true ∧ u.enables.buf2Full = true ∧ acks.buf2Full = false) ∨
      (u.flags.overrun = true ∧ u.enables.overrun = true ∧ acks.overrun = false) ∨
      (u.flags.hbe = true ∧ u.enables.hbe = true ∧ acks.hbe = false))) ∧
  (∀ (u : VideoIn) (acks : CaptureBits), ((u.acknowledge acks).requests = true ↔
      (u.flags.buf1Full = true ∧ u.enables.buf1Full = true ∧ acks.buf1Full = false) ∨
      (u.flags.buf2Full = true ∧ u.enables.buf2Full = true ∧ acks.buf2Full = false) ∨
      (u.flags.overrun = true ∧ u.enables.overrun = true ∧ acks.overrun = false) ∨
      (u.flags.hbe = true ∧ u.enables.hbe = true ∧ acks.hbe = false))) ∧
  ∀ (u v : VideoOut) (w : VoCtlWrite), u.writeCtl w = .ok v → (v.requests = true ↔
      (u.flags.bfr1Empty = true ∧ w.enables.bfr1Empty = true ∧ w.acks.bfr1Empty = false) ∨
      (u.flags.bfr2Empty = true ∧ w.enables.bfr2Empty = true ∧ w.acks.bfr2Empty = false) ∨
      (u.flags.hbe = true ∧ w.enables.hbe = true ∧ w.acks.hbe = false) ∨
      (u.flags.urun = true ∧ w.enables.urun = true ∧ w.acks.urun = false) ∨
      (u.flags.ytr = true ∧ w.enables.ytr = true ∧ w.acks.ytr = false))

/-- Tier 2 (R280, R282, R287, R331). Data leaves the Enhanced Video Out byte by byte from memory, uninterpreted; the byte that
empties the message buffer ends the message: BFR1_EMPTY is set, VO_ENABLE is cleared, and no event of clocks, lines, fields or
the highway changes the stopped unit any more. In data-streaming mode the last byte of a buffer exchanges it for the other, or
raises URUN where that one has not been acknowledged; that the stream then ends, with no more data and the data-valid signal
withdrawn after the next clock, is the model's choice (log 28). Setting RESET and VO_ENABLE together is refused (U7). -/
def Obligations.VideoOutMessageEnds : Prop :=
  (∀ u : VideoOut, u.reset = false → u.mode = .messagePassing → u.voEnable = true →
    (u.bufferEmpty .one).flags.bfr1Empty = true ∧ (u.bufferEmpty .one).voEnable = false ∧
      (u.bufferEmpty .one).bufferEmpty .one = u.bufferEmpty .one) ∧
  (∀ (s : State) (w : VoCtlWrite), w.reset = true → w.voEnable = true →
    unitEvent (.evoWriteCtl w) s = .refused .voResetWithEnable) ∧
  (∀ (u : VideoOut) (m : Memory), u.reset = false → u.mode ≠ .videoRefresh → u.voEnable = true →
    u.sending.phase = .sending → (u.clock m).data = [unitByte m u.sending.pointer] ∧
      (1 < u.sending.left → (u.clock m).sending.pointer = u.sending.pointer + 1 ∧
        (u.clock m).sending.left = u.sending.left - 1 ∧ (u.clock m).flags = u.flags)) ∧
  (∀ (u : VideoOut) (m : Memory), u.reset = false → u.mode = .messagePassing → u.voEnable = true →
    u.sending.phase = .sending → u.sending.active = .one → u.sending.left = 1 →
    let v := u.clock m
    v.flags.bfr1Empty = true ∧ v.voEnable = false ∧ v.endSent = true ∧
      ∀ n, v.clock n = v ∧ v.pixelTime n = v ∧ v.endOfField = v ∧ v.highwayError = v ∧ v.imageEmpty .one = v ∧ v.frameEdge = v) ∧
  ∀ (u : VideoOut) (m : Memory), u.reset = false → u.mode = .dataStreaming → u.voEnable = true →
    u.sending.phase = .sending → u.sending.left = 1 →
    (u.clock m).flags.empty u.sending.active = true ∧
    (u.flags.empty u.sending.active.other = false →
      (u.clock m).sending = u.sendBuffer u.sending.active.other .sending ∧ (u.clock m).flags.urun = u.flags.urun) ∧
    (u.flags.empty u.sending.active.other = true →
      (u.clock m).flags.urun = true ∧ ∀ n, ((u.clock m).clock n).data = [] ∧ ((u.clock m).clock n).dataValid = false)

/-- Tier 2 (R254). In global power down the DSPCPU waits; it runs again after an interrupt of a unit that stayed awake, and
after nothing else. That it waits, that Video In and the Enhanced Video Out stay awake, and that nothing else wakes it, is
the model's choice (log 31). -/
def Obligations.AudioInWakesTheDspcpu : Prop :=
  (∀ s : State, s.agenda = [] → s.globalPowerDown = true → step s = .next s) ∧
  ∀ (s t : State) (e : UnitEvent) (rest : List UnitEvent), s.agenda = e :: rest → s.globalPowerDown = true →
    step s = .next t →
    (t.globalPowerDown = false ↔ t.units.vi.requests = true ∨ t.units.evo.requests = true ∨
      (t.units.ai.requests = true ∧ t.units.ai.powered = true))
end

