-- ==== Sys2Proof/Laws/Memory.lean ====
section
/-! SUPPORT. What reading and writing memory do, and that every memory operation keeps the canonical form. -/

namespace Sys2Proof.Machine

@[simp] theorem Memory.read_write_same (m : Memory) (a : Nat) (v : Byte) : (m.write a v).read a = some v := by
  induction m with
  | nil => simp [Memory.write, Memory.read]
  | cons x rest ih =>
    obtain ⟨b, u⟩ := x
    unfold Memory.write
    split
    · simp [Memory.read]
    · split
      · simp [Memory.read]
      · rename_i h; simp [Memory.read, h, ih]

theorem Memory.read_write_of_ne (m : Memory) {a c : Nat} (v : Byte) (h : c ≠ a) :
    (m.write a v).read c = m.read c := by
  induction m with
  | nil => simp [Memory.write, Memory.read, h]
  | cons x rest ih =>
    obtain ⟨b, u⟩ := x
    unfold Memory.write
    split
    · simp [Memory.read, h]
    · split
      · rename_i hb; subst hb; simp [Memory.read, h]
      · simp [Memory.read, ih]

theorem Memory.mem_write {m : Memory} {a : Nat} {v : Byte} {x : Host.Cell} (h : x ∈ m.write a v) :
    x = (a, v) ∨ x ∈ m := by
  induction m with
  | nil => simpa [Memory.write] using h
  | cons y rest ih =>
    obtain ⟨b, u⟩ := y
    unfold Memory.write at h
    split at h
    · simpa using h
    · split at h
      · simp only [List.mem_cons] at h ⊢; tauto
      · simp only [List.mem_cons] at h ⊢; tauto

theorem Memory.wf_write {m : Memory} (h : m.wf) {a : Nat} (ha : a < 2 ^ 32) (v : Byte) : (m.write a v).wf := by
  refine ⟨?_, fun x hx => (Memory.mem_write hx).elim (fun e => e ▸ ha) (h.2 x)⟩
  have sorted := h.1
  clear h
  induction m with
  | nil => simp [Memory.write]
  | cons y rest ih =>
    obtain ⟨b, u⟩ := y
    rw [List.pairwise_cons] at sorted
    unfold Memory.write
    split
    · rename_i lt
      refine List.pairwise_cons.2 ⟨fun x hx => ?_, List.pairwise_cons.2 sorted⟩
      rcases List.mem_cons.1 hx with rfl | hx
      · exact lt
      · exact lt.trans (sorted.1 x hx)
    · split
      · rename_i e; subst e; exact List.pairwise_cons.2 sorted
      · rename_i nlt ne
        refine List.pairwise_cons.2 ⟨fun x hx => ?_, ih sorted.2⟩
        rcases Memory.mem_write hx with rfl | hx
        · show b < a; omega
        · exact sorted.1 x hx

theorem Memory.wf_writeCells {m : Memory} (h : m.wf) (cells : List (Word × Byte)) : (m.writeCells cells).wf := by
  induction cells generalizing m with
  | nil => exact h
  | cons c cells ih => exact ih (Memory.wf_write h c.1.isLt c.2)

theorem Memory.wf_writeBytes {m : Memory} (h : m.wf) (a : Word) (bytes : List Byte) : (m.writeBytes a bytes).wf :=
  Memory.wf_writeCells h _

theorem Memory.read_writeCells_of_forall_ne (m : Memory) (cells : List (Word × Byte)) {a : Nat}
    (h : ∀ c ∈ cells, a ≠ c.1.toNat) : (m.writeCells cells).read a = m.read a := by
  induction cells generalizing m with
  | nil => rfl
  | cons c cells ih =>
    exact (ih _ fun x hx => h x (List.mem_cons_of_mem _ hx)).trans
      (Memory.read_write_of_ne m c.2 (h c List.mem_cons_self))

end Sys2Proof.Machine
end

