-- ==== Sys2Proof/Laws/State.lean ====
section
/-! SUPPORT. One lemma per field per update of State, so that no proof unfolds a record update. -/

namespace Sys2Proof.Machine

variable (s : State)

@[simp] theorem State.commitResult_cfg (p : InFlight) : (s.commitResult p).cfg = s.cfg := rfl
@[simp] theorem State.commitResult_program (p : InFlight) : (s.commitResult p).program = s.program := rfl
@[simp] theorem State.commitResult_ip (p : InFlight) : (s.commitResult p).ip = s.ip := rfl
@[simp] theorem State.commitResult_regs (p : InFlight) : (s.commitResult p).regs = s.regs.set p.dest p.value := rfl
@[simp] theorem State.commitResult_pcsw (p : InFlight) : (s.commitResult p).pcsw = s.pcsw.orFlags p.flags := rfl
@[simp] theorem State.commitResult_dpc (p : InFlight) : (s.commitResult p).dpc = s.dpc := rfl
@[simp] theorem State.commitResult_spc (p : InFlight) : (s.commitResult p).spc = s.spc := rfl
@[simp] theorem State.commitResult_cccountMaster (p : InFlight) : (s.commitResult p).cccountMaster = s.cccountMaster := rfl
@[simp] theorem State.commitResult_cccountSlave (p : InFlight) : (s.commitResult p).cccountSlave = s.cccountSlave := rfl
@[simp] theorem State.commitResult_excPending (p : InFlight) : (s.commitResult p).excPending = s.excPending := rfl
@[simp] theorem State.commitResult_pending (p : InFlight) : (s.commitResult p).pending = s.pending := rfl
@[simp] theorem State.commitResult_mem (p : InFlight) : (s.commitResult p).mem = s.mem := rfl
@[simp] theorem State.commitResult_stored (p : InFlight) : (s.commitResult p).stored = s.stored := rfl
@[simp] theorem State.commitResult_draws (p : InFlight) : (s.commitResult p).draws = s.draws := rfl
@[simp] theorem State.commitResult_breach (p : InFlight) : (s.commitResult p).breach = s.breach := rfl
@[simp] theorem State.commitResult_agenda (p : InFlight) : (s.commitResult p).agenda = s.agenda := rfl
@[simp] theorem State.commitResult_units (p : InFlight) : (s.commitResult p).units = s.units := rfl
@[simp] theorem State.commitResult_globalPowerDown (p : InFlight) : (s.commitResult p).globalPowerDown = s.globalPowerDown := rfl

@[simp] theorem State.noteBreach_cfg (ops : List Instr) : (s.noteBreach ops).cfg = s.cfg := rfl
@[simp] theorem State.noteBreach_program (ops : List Instr) : (s.noteBreach ops).program = s.program := rfl
@[simp] theorem State.noteBreach_ip (ops : List Instr) : (s.noteBreach ops).ip = s.ip := rfl
@[simp] theorem State.noteBreach_regs (ops : List Instr) : (s.noteBreach ops).regs = s.regs := rfl
@[simp] theorem State.noteBreach_written (ops : List Instr) : (s.noteBreach ops).written = s.written := rfl
@[simp] theorem State.noteBreach_pcsw (ops : List Instr) : (s.noteBreach ops).pcsw = s.pcsw := rfl
@[simp] theorem State.noteBreach_dpc (ops : List Instr) : (s.noteBreach ops).dpc = s.dpc := rfl
@[simp] theorem State.noteBreach_spc (ops : List Instr) : (s.noteBreach ops).spc = s.spc := rfl
@[simp] theorem State.noteBreach_cccountMaster (ops : List Instr) : (s.noteBreach ops).cccountMaster = s.cccountMaster := rfl
@[simp] theorem State.noteBreach_cccountSlave (ops : List Instr) : (s.noteBreach ops).cccountSlave = s.cccountSlave := rfl
@[simp] theorem State.noteBreach_excPending (ops : List Instr) : (s.noteBreach ops).excPending = s.excPending := rfl
@[simp] theorem State.noteBreach_pending (ops : List Instr) : (s.noteBreach ops).pending = s.pending := rfl
@[simp] theorem State.noteBreach_mem (ops : List Instr) : (s.noteBreach ops).mem = s.mem := rfl
@[simp] theorem State.noteBreach_stored (ops : List Instr) : (s.noteBreach ops).stored = s.stored := rfl
@[simp] theorem State.noteBreach_draws (ops : List Instr) : (s.noteBreach ops).draws = s.draws := rfl
@[simp] theorem State.noteBreach_breach (ops : List Instr) : (s.noteBreach ops).breach = (s.breach <|> s.firstBreach ops) := rfl
@[simp] theorem State.noteBreach_agenda (ops : List Instr) : (s.noteBreach ops).agenda = s.agenda := rfl
@[simp] theorem State.noteBreach_units (ops : List Instr) : (s.noteBreach ops).units = s.units := rfl
@[simp] theorem State.noteBreach_globalPowerDown (ops : List Instr) : (s.noteBreach ops).globalPowerDown = s.globalPowerDown := rfl

@[simp] theorem State.countCycles_cfg : (s.countCycles).cfg = s.cfg := rfl
@[simp] theorem State.countCycles_program : (s.countCycles).program = s.program := rfl
@[simp] theorem State.countCycles_ip : (s.countCycles).ip = s.ip := rfl
@[simp] theorem State.countCycles_regs : (s.countCycles).regs = s.regs := rfl
@[simp] theorem State.countCycles_written : (s.countCycles).written = s.written := rfl
@[simp] theorem State.countCycles_pcsw : (s.countCycles).pcsw = s.pcsw := rfl
@[simp] theorem State.countCycles_dpc : (s.countCycles).dpc = s.dpc := rfl
@[simp] theorem State.countCycles_spc : (s.countCycles).spc = s.spc := rfl
@[simp] theorem State.countCycles_cccountSlave : (s.countCycles).cccountSlave = s.cccountSlave := rfl
@[simp] theorem State.countCycles_excPending : (s.countCycles).excPending = s.excPending := rfl
@[simp] theorem State.countCycles_pending : (s.countCycles).pending = s.pending := rfl
@[simp] theorem State.countCycles_mem : (s.countCycles).mem = s.mem := rfl
@[simp] theorem State.countCycles_stored : (s.countCycles).stored = s.stored := rfl
@[simp] theorem State.countCycles_draws : (s.countCycles).draws = s.draws := rfl
@[simp] theorem State.countCycles_breach : (s.countCycles).breach = s.breach := rfl
@[simp] theorem State.countCycles_agenda : (s.countCycles).agenda = s.agenda := rfl
@[simp] theorem State.countCycles_units : (s.countCycles).units = s.units := rfl
@[simp] theorem State.countCycles_globalPowerDown : (s.countCycles).globalPowerDown = s.globalPowerDown := rfl

@[simp] theorem State.advance_cfg : (s.advance).cfg = s.cfg := rfl
@[simp] theorem State.advance_program : (s.advance).program = s.program := rfl
@[simp] theorem State.advance_ip : (s.advance).ip = s.ip + 1 := rfl
@[simp] theorem State.advance_regs : (s.advance).regs = s.regs := rfl
@[simp] theorem State.advance_written : (s.advance).written = s.written := rfl
@[simp] theorem State.advance_pcsw : (s.advance).pcsw = s.pcsw := rfl
@[simp] theorem State.advance_dpc : (s.advance).dpc = s.dpc := rfl
@[simp] theorem State.advance_spc : (s.advance).spc = s.spc := rfl
@[simp] theorem State.advance_cccountSlave : (s.advance).cccountSlave = s.cccountSlave := rfl
@[simp] theorem State.advance_excPending : (s.advance).excPending = s.excPending := rfl
@[simp] theorem State.advance_pending : (s.advance).pending = s.pending := rfl
@[simp] theorem State.advance_mem : (s.advance).mem = s.mem := rfl
@[simp] theorem State.advance_stored : (s.advance).stored = [] := rfl
@[simp] theorem State.advance_draws : (s.advance).draws = s.draws + 1 := rfl
@[simp] theorem State.advance_breach : (s.advance).breach = s.breach := rfl
@[simp] theorem State.advance_agenda : (s.advance).agenda = s.agenda := rfl
@[simp] theorem State.advance_units : (s.advance).units = s.units := rfl
@[simp] theorem State.advance_globalPowerDown : (s.advance).globalPowerDown = s.globalPowerDown := rfl

@[simp] theorem State.sampleCccount_cfg : (s.sampleCccount).cfg = s.cfg := rfl
@[simp] theorem State.sampleCccount_program : (s.sampleCccount).program = s.program := rfl
@[simp] theorem State.sampleCccount_ip : (s.sampleCccount).ip = s.ip := rfl
@[simp] theorem State.sampleCccount_regs : (s.sampleCccount).regs = s.regs := rfl
@[simp] theorem State.sampleCccount_written : (s.sampleCccount).written = s.written := rfl
@[simp] theorem State.sampleCccount_pcsw : (s.sampleCccount).pcsw = s.pcsw := rfl
@[simp] theorem State.sampleCccount_dpc : (s.sampleCccount).dpc = s.dpc := rfl
@[simp] theorem State.sampleCccount_spc : (s.sampleCccount).spc = s.spc := rfl
@[simp] theorem State.sampleCccount_cccountMaster : (s.sampleCccount).cccountMaster = s.cccountMaster := rfl
@[simp] theorem State.sampleCccount_cccountSlave : (s.sampleCccount).cccountSlave = s.cccountMaster := rfl
@[simp] theorem State.sampleCccount_excPending : (s.sampleCccount).excPending = s.excPending := rfl
@[simp] theorem State.sampleCccount_pending : (s.sampleCccount).pending = s.pending := rfl
@[simp] theorem State.sampleCccount_mem : (s.sampleCccount).mem = s.mem := rfl
@[simp] theorem State.sampleCccount_stored : (s.sampleCccount).stored = s.stored := rfl
@[simp] theorem State.sampleCccount_draws : (s.sampleCccount).draws = s.draws := rfl
@[simp] theorem State.sampleCccount_breach : (s.sampleCccount).breach = s.breach := rfl
@[simp] theorem State.sampleCccount_agenda : (s.sampleCccount).agenda = s.agenda := rfl
@[simp] theorem State.sampleCccount_units : (s.sampleCccount).units = s.units := rfl
@[simp] theorem State.sampleCccount_globalPowerDown : (s.sampleCccount).globalPowerDown = s.globalPowerDown := rfl

@[simp] theorem State.raiseMisalignedStore_cfg : (s.raiseMisalignedStore).cfg = s.cfg := rfl
@[simp] theorem State.raiseMisalignedStore_program : (s.raiseMisalignedStore).program = s.program := rfl
@[simp] theorem State.raiseMisalignedStore_ip : (s.raiseMisalignedStore).ip = s.ip := rfl
@[simp] theorem State.raiseMisalignedStore_regs : (s.raiseMisalignedStore).regs = s.regs := rfl
@[simp] theorem State.raiseMisalignedStore_written : (s.raiseMisalignedStore).written = s.written := rfl
@[simp] theorem State.raiseMisalignedStore_pcsw : (s.raiseMisalignedStore).pcsw = { s.pcsw with mse := true } := rfl
@[simp] theorem State.raiseMisalignedStore_dpc : (s.raiseMisalignedStore).dpc = s.dpc := rfl
@[simp] theorem State.raiseMisalignedStore_spc : (s.raiseMisalignedStore).spc = s.spc := rfl
@[simp] theorem State.raiseMisalignedStore_cccountMaster : (s.raiseMisalignedStore).cccountMaster = s.cccountMaster := rfl
@[simp] theorem State.raiseMisalignedStore_cccountSlave : (s.raiseMisalignedStore).cccountSlave = s.cccountSlave := rfl
@[simp] theorem State.raiseMisalignedStore_excPending : (s.raiseMisalignedStore).excPending = (s.excPending || s.pcsw.trpmse) := rfl
@[simp] theorem State.raiseMisalignedStore_pending : (s.raiseMisalignedStore).pending = s.pending := rfl
@[simp] theorem State.raiseMisalignedStore_mem : (s.raiseMisalignedStore).mem = s.mem := rfl
@[simp] theorem State.raiseMisalignedStore_stored : (s.raiseMisalignedStore).stored = s.stored := rfl
@[simp] theorem State.raiseMisalignedStore_draws : (s.raiseMisalignedStore).draws = s.draws := rfl
@[simp] theorem State.raiseMisalignedStore_breach : (s.raiseMisalignedStore).breach = s.breach := rfl
@[simp] theorem State.raiseMisalignedStore_agenda : (s.raiseMisalignedStore).agenda = s.agenda := rfl
@[simp] theorem State.raiseMisalignedStore_units : (s.raiseMisalignedStore).units = s.units := rfl
@[simp] theorem State.raiseMisalignedStore_globalPowerDown : (s.raiseMisalignedStore).globalPowerDown = s.globalPowerDown := rfl

@[simp] theorem State.storeAligned_cfg (a v : Word) : (s.storeAligned a v).cfg = s.cfg := rfl
@[simp] theorem State.storeAligned_program (a v : Word) : (s.storeAligned a v).program = s.program := rfl
@[simp] theorem State.storeAligned_ip (a v : Word) : (s.storeAligned a v).ip = s.ip := rfl
@[simp] theorem State.storeAligned_regs (a v : Word) : (s.storeAligned a v).regs = s.regs := rfl
@[simp] theorem State.storeAligned_written (a v : Word) : (s.storeAligned a v).written = s.written := rfl
@[simp] theorem State.storeAligned_pcsw (a v : Word) : (s.storeAligned a v).pcsw = s.pcsw := rfl
@[simp] theorem State.storeAligned_dpc (a v : Word) : (s.storeAligned a v).dpc = s.dpc := rfl
@[simp] theorem State.storeAligned_spc (a v : Word) : (s.storeAligned a v).spc = s.spc := rfl
@[simp] theorem State.storeAligned_cccountMaster (a v : Word) : (s.storeAligned a v).cccountMaster = s.cccountMaster := rfl
@[simp] theorem State.storeAligned_cccountSlave (a v : Word) : (s.storeAligned a v).cccountSlave = s.cccountSlave := rfl
@[simp] theorem State.storeAligned_excPending (a v : Word) : (s.storeAligned a v).excPending = s.excPending := rfl
@[simp] theorem State.storeAligned_pending (a v : Word) : (s.storeAligned a v).pending = s.pending := rfl
@[simp] theorem State.storeAligned_mem (a v : Word) : (s.storeAligned a v).mem = s.mem.writeBytes a (halfBytes s.pcsw.bytesex (s.halfStored a v)) := rfl
@[simp] theorem State.storeAligned_stored (a v : Word) : (s.storeAligned a v).stored = s.stored ++ [a] := rfl
@[simp] theorem State.storeAligned_draws (a v : Word) : (s.storeAligned a v).draws = s.draws := rfl
@[simp] theorem State.storeAligned_breach (a v : Word) : (s.storeAligned a v).breach = s.breach := rfl
@[simp] theorem State.storeAligned_agenda (a v : Word) : (s.storeAligned a v).agenda = s.agenda := rfl
@[simp] theorem State.storeAligned_units (a v : Word) : (s.storeAligned a v).units = s.units := rfl
@[simp] theorem State.storeAligned_globalPowerDown (a v : Word) : (s.storeAligned a v).globalPowerDown = s.globalPowerDown := rfl

@[simp] theorem State.storeMisaligned_cfg (a v : Word) : (s.storeMisaligned a v).cfg = s.cfg := rfl
@[simp] theorem State.storeMisaligned_program (a v : Word) : (s.storeMisaligned a v).program = s.program := rfl
@[simp] theorem State.storeMisaligned_ip (a v : Word) : (s.storeMisaligned a v).ip = s.ip := rfl
@[simp] theorem State.storeMisaligned_regs (a v : Word) : (s.storeMisaligned a v).regs = s.regs := rfl
@[simp] theorem State.storeMisaligned_written (a v : Word) : (s.storeMisaligned a v).written = s.written := rfl
@[simp] theorem State.storeMisaligned_pcsw (a v : Word) : (s.storeMisaligned a v).pcsw = { s.pcsw with mse := true } := rfl
@[simp] theorem State.storeMisaligned_dpc (a v : Word) : (s.storeMisaligned a v).dpc = s.dpc := rfl
@[simp] theorem State.storeMisaligned_spc (a v : Word) : (s.storeMisaligned a v).spc = s.spc := rfl
@[simp] theorem State.storeMisaligned_cccountMaster (a v : Word) : (s.storeMisaligned a v).cccountMaster = s.cccountMaster := rfl
@[simp] theorem State.storeMisaligned_cccountSlave (a v : Word) : (s.storeMisaligned a v).cccountSlave = s.cccountSlave := rfl
@[simp] theorem State.storeMisaligned_excPending (a v : Word) : (s.storeMisaligned a v).excPending = (s.excPending || s.pcsw.trpmse) := rfl
@[simp] theorem State.storeMisaligned_pending (a v : Word) : (s.storeMisaligned a v).pending = s.pending := rfl
@[simp] theorem State.storeMisaligned_mem (a v : Word) : (s.storeMisaligned a v).mem = s.mem.writeCells (Config.misalignedCells s.draws a v) := rfl
@[simp] theorem State.storeMisaligned_stored (a v : Word) : (s.storeMisaligned a v).stored = s.stored ++ [a] := rfl
@[simp] theorem State.storeMisaligned_draws (a v : Word) : (s.storeMisaligned a v).draws = s.draws := rfl
@[simp] theorem State.storeMisaligned_breach (a v : Word) : (s.storeMisaligned a v).breach = s.breach := rfl
@[simp] theorem State.storeMisaligned_agenda (a v : Word) : (s.storeMisaligned a v).agenda = s.agenda := rfl
@[simp] theorem State.storeMisaligned_units (a v : Word) : (s.storeMisaligned a v).units = s.units := rfl
@[simp] theorem State.storeMisaligned_globalPowerDown (a v : Word) : (s.storeMisaligned a v).globalPowerDown = s.globalPowerDown := rfl

@[simp] theorem State.setVi_cfg (u : VideoIn) : (s.setVi u).cfg = s.cfg := rfl
@[simp] theorem State.setVi_program (u : VideoIn) : (s.setVi u).program = s.program := rfl
@[simp] theorem State.setVi_ip (u : VideoIn) : (s.setVi u).ip = s.ip := rfl
@[simp] theorem State.setVi_regs (u : VideoIn) : (s.setVi u).regs = s.regs := rfl
@[simp] theorem State.setVi_written (u : VideoIn) : (s.setVi u).written = s.written := rfl
@[simp] theorem State.setVi_pcsw (u : VideoIn) : (s.setVi u).pcsw = s.pcsw := rfl
@[simp] theorem State.setVi_dpc (u : VideoIn) : (s.setVi u).dpc = s.dpc := rfl
@[simp] theorem State.setVi_spc (u : VideoIn) : (s.setVi u).spc = s.spc := rfl
@[simp] theorem State.setVi_cccountMaster (u : VideoIn) : (s.setVi u).cccountMaster = s.cccountMaster := rfl
@[simp] theorem State.setVi_cccountSlave (u : VideoIn) : (s.setVi u).cccountSlave = s.cccountSlave := rfl
@[simp] theorem State.setVi_excPending (u : VideoIn) : (s.setVi u).excPending = s.excPending := rfl
@[simp] theorem State.setVi_pending (u : VideoIn) : (s.setVi u).pending = s.pending := rfl
@[simp] theorem State.setVi_mem (u : VideoIn) : (s.setVi u).mem = s.mem := rfl
@[simp] theorem State.setVi_stored (u : VideoIn) : (s.setVi u).stored = s.stored := rfl
@[simp] theorem State.setVi_draws (u : VideoIn) : (s.setVi u).draws = s.draws := rfl
@[simp] theorem State.setVi_breach (u : VideoIn) : (s.setVi u).breach = s.breach := rfl
@[simp] theorem State.setVi_agenda (u : VideoIn) : (s.setVi u).agenda = s.agenda := rfl
@[simp] theorem State.setVi_units (u : VideoIn) : (s.setVi u).units = { s.units with vi := u } := rfl
@[simp] theorem State.setVi_globalPowerDown (u : VideoIn) : (s.setVi u).globalPowerDown = s.globalPowerDown := rfl

@[simp] theorem State.setEvo_cfg (u : VideoOut) : (s.setEvo u).cfg = s.cfg := rfl
@[simp] theorem State.setEvo_program (u : VideoOut) : (s.setEvo u).program = s.program := rfl
@[simp] theorem State.setEvo_ip (u : VideoOut) : (s.setEvo u).ip = s.ip := rfl
@[simp] theorem State.setEvo_regs (u : VideoOut) : (s.setEvo u).regs = s.regs := rfl
@[simp] theorem State.setEvo_written (u : VideoOut) : (s.setEvo u).written = s.written := rfl
@[simp] theorem State.setEvo_pcsw (u : VideoOut) : (s.setEvo u).pcsw = s.pcsw := rfl
@[simp] theorem State.setEvo_dpc (u : VideoOut) : (s.setEvo u).dpc = s.dpc := rfl
@[simp] theorem State.setEvo_spc (u : VideoOut) : (s.setEvo u).spc = s.spc := rfl
@[simp] theorem State.setEvo_cccountMaster (u : VideoOut) : (s.setEvo u).cccountMaster = s.cccountMaster := rfl
@[simp] theorem State.setEvo_cccountSlave (u : VideoOut) : (s.setEvo u).cccountSlave = s.cccountSlave := rfl
@[simp] theorem State.setEvo_excPending (u : VideoOut) : (s.setEvo u).excPending = s.excPending := rfl
@[simp] theorem State.setEvo_pending (u : VideoOut) : (s.setEvo u).pending = s.pending := rfl
@[simp] theorem State.setEvo_mem (u : VideoOut) : (s.setEvo u).mem = s.mem := rfl
@[simp] theorem State.setEvo_stored (u : VideoOut) : (s.setEvo u).stored = s.stored := rfl
@[simp] theorem State.setEvo_draws (u : VideoOut) : (s.setEvo u).draws = s.draws := rfl
@[simp] theorem State.setEvo_breach (u : VideoOut) : (s.setEvo u).breach = s.breach := rfl
@[simp] theorem State.setEvo_agenda (u : VideoOut) : (s.setEvo u).agenda = s.agenda := rfl
@[simp] theorem State.setEvo_units (u : VideoOut) : (s.setEvo u).units = { s.units with evo := u } := rfl
@[simp] theorem State.setEvo_globalPowerDown (u : VideoOut) : (s.setEvo u).globalPowerDown = s.globalPowerDown := rfl

@[simp] theorem State.setAi_cfg (u : AudioIn) : (s.setAi u).cfg = s.cfg := rfl
@[simp] theorem State.setAi_program (u : AudioIn) : (s.setAi u).program = s.program := rfl
@[simp] theorem State.setAi_ip (u : AudioIn) : (s.setAi u).ip = s.ip := rfl
@[simp] theorem State.setAi_regs (u : AudioIn) : (s.setAi u).regs = s.regs := rfl
@[simp] theorem State.setAi_written (u : AudioIn) : (s.setAi u).written = s.written := rfl
@[simp] theorem State.setAi_pcsw (u : AudioIn) : (s.setAi u).pcsw = s.pcsw := rfl
@[simp] theorem State.setAi_dpc (u : AudioIn) : (s.setAi u).dpc = s.dpc := rfl
@[simp] theorem State.setAi_spc (u : AudioIn) : (s.setAi u).spc = s.spc := rfl
@[simp] theorem State.setAi_cccountMaster (u : AudioIn) : (s.setAi u).cccountMaster = s.cccountMaster := rfl
@[simp] theorem State.setAi_cccountSlave (u : AudioIn) : (s.setAi u).cccountSlave = s.cccountSlave := rfl
@[simp] theorem State.setAi_excPending (u : AudioIn) : (s.setAi u).excPending = s.excPending := rfl
@[simp] theorem State.setAi_pending (u : AudioIn) : (s.setAi u).pending = s.pending := rfl
@[simp] theorem State.setAi_mem (u : AudioIn) : (s.setAi u).mem = s.mem := rfl
@[simp] theorem State.setAi_stored (u : AudioIn) : (s.setAi u).stored = s.stored := rfl
@[simp] theorem State.setAi_draws (u : AudioIn) : (s.setAi u).draws = s.draws := rfl
@[simp] theorem State.setAi_breach (u : AudioIn) : (s.setAi u).breach = s.breach := rfl
@[simp] theorem State.setAi_agenda (u : AudioIn) : (s.setAi u).agenda = s.agenda := rfl
@[simp] theorem State.setAi_units (u : AudioIn) : (s.setAi u).units = { s.units with ai := u } := rfl
@[simp] theorem State.setAi_globalPowerDown (u : AudioIn) : (s.setAi u).globalPowerDown = s.globalPowerDown := rfl

@[simp] theorem State.setIcp_cfg (u : Icp) : (s.setIcp u).cfg = s.cfg := rfl
@[simp] theorem State.setIcp_program (u : Icp) : (s.setIcp u).program = s.program := rfl
@[simp] theorem State.setIcp_ip (u : Icp) : (s.setIcp u).ip = s.ip := rfl
@[simp] theorem State.setIcp_regs (u : Icp) : (s.setIcp u).regs = s.regs := rfl
@[simp] theorem State.setIcp_written (u : Icp) : (s.setIcp u).written = s.written := rfl
@[simp] theorem State.setIcp_pcsw (u : Icp) : (s.setIcp u).pcsw = s.pcsw := rfl
@[simp] theorem State.setIcp_dpc (u : Icp) : (s.setIcp u).dpc = s.dpc := rfl
@[simp] theorem State.setIcp_spc (u : Icp) : (s.setIcp u).spc = s.spc := rfl
@[simp] theorem State.setIcp_cccountMaster (u : Icp) : (s.setIcp u).cccountMaster = s.cccountMaster := rfl
@[simp] theorem State.setIcp_cccountSlave (u : Icp) : (s.setIcp u).cccountSlave = s.cccountSlave := rfl
@[simp] theorem State.setIcp_excPending (u : Icp) : (s.setIcp u).excPending = s.excPending := rfl
@[simp] theorem State.setIcp_pending (u : Icp) : (s.setIcp u).pending = s.pending := rfl
@[simp] theorem State.setIcp_mem (u : Icp) : (s.setIcp u).mem = s.mem := rfl
@[simp] theorem State.setIcp_stored (u : Icp) : (s.setIcp u).stored = s.stored := rfl
@[simp] theorem State.setIcp_draws (u : Icp) : (s.setIcp u).draws = s.draws := rfl
@[simp] theorem State.setIcp_breach (u : Icp) : (s.setIcp u).breach = s.breach := rfl
@[simp] theorem State.setIcp_agenda (u : Icp) : (s.setIcp u).agenda = s.agenda := rfl
@[simp] theorem State.setIcp_units (u : Icp) : (s.setIcp u).units = { s.units with icp := u } := rfl
@[simp] theorem State.setIcp_globalPowerDown (u : Icp) : (s.setIcp u).globalPowerDown = s.globalPowerDown := rfl

@[simp] theorem State.setXio_cfg (u : Xio) : (s.setXio u).cfg = s.cfg := rfl
@[simp] theorem State.setXio_program (u : Xio) : (s.setXio u).program = s.program := rfl
@[simp] theorem State.setXio_ip (u : Xio) : (s.setXio u).ip = s.ip := rfl
@[simp] theorem State.setXio_regs (u : Xio) : (s.setXio u).regs = s.regs := rfl
@[simp] theorem State.setXio_written (u : Xio) : (s.setXio u).written = s.written := rfl
@[simp] theorem State.setXio_pcsw (u : Xio) : (s.setXio u).pcsw = s.pcsw := rfl
@[simp] theorem State.setXio_dpc (u : Xio) : (s.setXio u).dpc = s.dpc := rfl
@[simp] theorem State.setXio_spc (u : Xio) : (s.setXio u).spc = s.spc := rfl
@[simp] theorem State.setXio_cccountMaster (u : Xio) : (s.setXio u).cccountMaster = s.cccountMaster := rfl
@[simp] theorem State.setXio_cccountSlave (u : Xio) : (s.setXio u).cccountSlave = s.cccountSlave := rfl
@[simp] theorem State.setXio_excPending (u : Xio) : (s.setXio u).excPending = s.excPending := rfl
@[simp] theorem State.setXio_pending (u : Xio) : (s.setXio u).pending = s.pending := rfl
@[simp] theorem State.setXio_mem (u : Xio) : (s.setXio u).mem = s.mem := rfl
@[simp] theorem State.setXio_stored (u : Xio) : (s.setXio u).stored = s.stored := rfl
@[simp] theorem State.setXio_draws (u : Xio) : (s.setXio u).draws = s.draws := rfl
@[simp] theorem State.setXio_breach (u : Xio) : (s.setXio u).breach = s.breach := rfl
@[simp] theorem State.setXio_agenda (u : Xio) : (s.setXio u).agenda = s.agenda := rfl
@[simp] theorem State.setXio_units (u : Xio) : (s.setXio u).units = { s.units with xio := u } := rfl
@[simp] theorem State.setXio_globalPowerDown (u : Xio) : (s.setXio u).globalPowerDown = s.globalPowerDown := rfl

@[simp] theorem State.wake_cfg : (s.wake).cfg = s.cfg := rfl
@[simp] theorem State.wake_program : (s.wake).program = s.program := rfl
@[simp] theorem State.wake_ip : (s.wake).ip = s.ip := rfl
@[simp] theorem State.wake_regs : (s.wake).regs = s.regs := rfl
@[simp] theorem State.wake_written : (s.wake).written = s.written := rfl
@[simp] theorem State.wake_pcsw : (s.wake).pcsw = s.pcsw := rfl
@[simp] theorem State.wake_dpc : (s.wake).dpc = s.dpc := rfl
@[simp] theorem State.wake_spc : (s.wake).spc = s.spc := rfl
@[simp] theorem State.wake_cccountMaster : (s.wake).cccountMaster = s.cccountMaster := rfl
@[simp] theorem State.wake_cccountSlave : (s.wake).cccountSlave = s.cccountSlave := rfl
@[simp] theorem State.wake_excPending : (s.wake).excPending = s.excPending := rfl
@[simp] theorem State.wake_pending : (s.wake).pending = s.pending := rfl
@[simp] theorem State.wake_mem : (s.wake).mem = s.mem := rfl
@[simp] theorem State.wake_stored : (s.wake).stored = s.stored := rfl
@[simp] theorem State.wake_draws : (s.wake).draws = s.draws := rfl
@[simp] theorem State.wake_breach : (s.wake).breach = s.breach := rfl
@[simp] theorem State.wake_agenda : (s.wake).agenda = s.agenda := rfl
@[simp] theorem State.wake_units : (s.wake).units = s.units := rfl

@[simp] theorem State.prefetch_cfg (b : Word) : (s.prefetch b).cfg = s.cfg := rfl
@[simp] theorem State.prefetch_program (b : Word) : (s.prefetch b).program = s.program := rfl
@[simp] theorem State.prefetch_ip (b : Word) : (s.prefetch b).ip = s.ip := rfl
@[simp] theorem State.prefetch_regs (b : Word) : (s.prefetch b).regs = s.regs := rfl
@[simp] theorem State.prefetch_written (b : Word) : (s.prefetch b).written = s.written := rfl
@[simp] theorem State.prefetch_pcsw (b : Word) : (s.prefetch b).pcsw = s.pcsw := rfl
@[simp] theorem State.prefetch_dpc (b : Word) : (s.prefetch b).dpc = s.dpc := rfl
@[simp] theorem State.prefetch_spc (b : Word) : (s.prefetch b).spc = s.spc := rfl
@[simp] theorem State.prefetch_cccountMaster (b : Word) : (s.prefetch b).cccountMaster = s.cccountMaster := rfl
@[simp] theorem State.prefetch_cccountSlave (b : Word) : (s.prefetch b).cccountSlave = s.cccountSlave := rfl
@[simp] theorem State.prefetch_excPending (b : Word) : (s.prefetch b).excPending = s.excPending := rfl
@[simp] theorem State.prefetch_pending (b : Word) : (s.prefetch b).pending = s.pending := rfl
@[simp] theorem State.prefetch_mem (b : Word) : (s.prefetch b).mem = s.mem := rfl
@[simp] theorem State.prefetch_stored (b : Word) : (s.prefetch b).stored = s.stored := rfl
@[simp] theorem State.prefetch_draws (b : Word) : (s.prefetch b).draws = s.draws := rfl
@[simp] theorem State.prefetch_breach (b : Word) : (s.prefetch b).breach = s.breach := rfl
@[simp] theorem State.prefetch_agenda (b : Word) : (s.prefetch b).agenda = s.agenda := rfl
@[simp] theorem State.prefetch_units (b : Word) : (s.prefetch b).units = s.units := rfl
@[simp] theorem State.prefetch_globalPowerDown (b : Word) : (s.prefetch b).globalPowerDown = s.globalPowerDown := rfl

@[simp] theorem State.withFetchWord_cfg (n w : Nat) : (s.withFetchWord n w).cfg = s.cfg := rfl
@[simp] theorem State.withFetchWord_program (n w : Nat) : (s.withFetchWord n w).program = placeInstruction s.program s.ip [recordOfWord n w] := rfl
@[simp] theorem State.withFetchWord_ip (n w : Nat) : (s.withFetchWord n w).ip = s.ip := rfl
@[simp] theorem State.withFetchWord_regs (n w : Nat) : (s.withFetchWord n w).regs = s.regs := rfl
@[simp] theorem State.withFetchWord_written (n w : Nat) : (s.withFetchWord n w).written = s.written := rfl
@[simp] theorem State.withFetchWord_pcsw (n w : Nat) : (s.withFetchWord n w).pcsw = s.pcsw := rfl
@[simp] theorem State.withFetchWord_dpc (n w : Nat) : (s.withFetchWord n w).dpc = s.dpc := rfl
@[simp] theorem State.withFetchWord_spc (n w : Nat) : (s.withFetchWord n w).spc = s.spc := rfl
@[simp] theorem State.withFetchWord_cccountMaster (n w : Nat) : (s.withFetchWord n w).cccountMaster = s.cccountMaster := rfl
@[simp] theorem State.withFetchWord_cccountSlave (n w : Nat) : (s.withFetchWord n w).cccountSlave = s.cccountSlave := rfl
@[simp] theorem State.withFetchWord_excPending (n w : Nat) : (s.withFetchWord n w).excPending = s.excPending := rfl
@[simp] theorem State.withFetchWord_pending (n w : Nat) : (s.withFetchWord n w).pending = s.pending := rfl
@[simp] theorem State.withFetchWord_mem (n w : Nat) : (s.withFetchWord n w).mem = s.mem := rfl
@[simp] theorem State.withFetchWord_stored (n w : Nat) : (s.withFetchWord n w).stored = s.stored := rfl
@[simp] theorem State.withFetchWord_draws (n w : Nat) : (s.withFetchWord n w).draws = s.draws := rfl
@[simp] theorem State.withFetchWord_breach (n w : Nat) : (s.withFetchWord n w).breach = s.breach := rfl
@[simp] theorem State.withFetchWord_agenda (n w : Nat) : (s.withFetchWord n w).agenda = [] := rfl
@[simp] theorem State.withFetchWord_units (n w : Nat) : (s.withFetchWord n w).units = s.units := rfl
@[simp] theorem State.withFetchWord_globalPowerDown (n w : Nat) : (s.withFetchWord n w).globalPowerDown = false := rfl

@[simp] theorem State.issue_cfg (d : RegNo) (l : Nat) (v : Word) (f : FpFlags) : (s.issue d l v f).cfg = s.cfg := by
  unfold State.issue; dsimp only; split <;> rfl
@[simp] theorem State.issue_program (d : RegNo) (l : Nat) (v : Word) (f : FpFlags) : (s.issue d l v f).program = s.program := by
  unfold State.issue; dsimp only; split <;> rfl
@[simp] theorem State.issue_ip (d : RegNo) (l : Nat) (v : Word) (f : FpFlags) : (s.issue d l v f).ip = s.ip := by
  unfold State.issue; dsimp only; split <;> rfl
@[simp] theorem State.issue_regs (d : RegNo) (l : Nat) (v : Word) (f : FpFlags) : (s.issue d l v f).regs = s.regs := by
  unfold State.issue; dsimp only; split <;> rfl
@[simp] theorem State.issue_written (d : RegNo) (l : Nat) (v : Word) (f : FpFlags) : (s.issue d l v f).written = s.written := by
  unfold State.issue; dsimp only; split <;> rfl
@[simp] theorem State.issue_pcsw (d : RegNo) (l : Nat) (v : Word) (f : FpFlags) : (s.issue d l v f).pcsw = s.pcsw := by
  unfold State.issue; dsimp only; split <;> rfl
@[simp] theorem State.issue_dpc (d : RegNo) (l : Nat) (v : Word) (f : FpFlags) : (s.issue d l v f).dpc = s.dpc := by
  unfold State.issue; dsimp only; split <;> rfl
@[simp] theorem State.issue_spc (d : RegNo) (l : Nat) (v : Word) (f : FpFlags) : (s.issue d l v f).spc = s.spc := by
  unfold State.issue; dsimp only; split <;> rfl
@[simp] theorem State.issue_cccountMaster (d : RegNo) (l : Nat) (v : Word) (f : FpFlags) : (s.issue d l v f).cccountMaster = s.cccountMaster := by
  unfold State.issue; dsimp only; split <;> rfl
@[simp] theorem State.issue_cccountSlave (d : RegNo) (l : Nat) (v : Word) (f : FpFlags) : (s.issue d l v f).cccountSlave = s.cccountSlave := by
  unfold State.issue; dsimp only; split <;> rfl
@[simp] theorem State.issue_excPending (d : RegNo) (l : Nat) (v : Word) (f : FpFlags) : (s.issue d l v f).excPending = s.excPending := by
  unfold State.issue; dsimp only; split <;> rfl
@[simp] theorem State.issue_mem (d : RegNo) (l : Nat) (v : Word) (f : FpFlags) : (s.issue d l v f).mem = s.mem := by
  unfold State.issue; dsimp only; split <;> rfl
@[simp] theorem State.issue_stored (d : RegNo) (l : Nat) (v : Word) (f : FpFlags) : (s.issue d l v f).stored = s.stored := by
  unfold State.issue; dsimp only; split <;> rfl
@[simp] theorem State.issue_draws (d : RegNo) (l : Nat) (v : Word) (f : FpFlags) : (s.issue d l v f).draws = s.draws := by
  unfold State.issue; dsimp only; split <;> rfl
@[simp] theorem State.issue_breach (d : RegNo) (l : Nat) (v : Word) (f : FpFlags) : (s.issue d l v f).breach = s.breach := by
  unfold State.issue; dsimp only; split <;> rfl
@[simp] theorem State.issue_agenda (d : RegNo) (l : Nat) (v : Word) (f : FpFlags) : (s.issue d l v f).agenda = s.agenda := by
  unfold State.issue; dsimp only; split <;> rfl
@[simp] theorem State.issue_units (d : RegNo) (l : Nat) (v : Word) (f : FpFlags) : (s.issue d l v f).units = s.units := by
  unfold State.issue; dsimp only; split <;> rfl
@[simp] theorem State.issue_globalPowerDown (d : RegNo) (l : Nat) (v : Word) (f : FpFlags) : (s.issue d l v f).globalPowerDown = s.globalPowerDown := by
  unfold State.issue; dsimp only; split <;> rfl

@[simp] theorem State.commitResults_cfg (ps : List InFlight) : (s.commitResults ps).cfg = s.cfg := by
  induction ps generalizing s with
  | nil => rfl
  | cons p ps ih => exact (ih (s.commitResult p)).trans rfl
@[simp] theorem State.commitResults_program (ps : List InFlight) : (s.commitResults ps).program = s.program := by
  induction ps generalizing s with
  | nil => rfl
  | cons p ps ih => exact (ih (s.commitResult p)).trans rfl
@[simp] theorem State.commitResults_ip (ps : List InFlight) : (s.commitResults ps).ip = s.ip := by
  induction ps generalizing s with
  | nil => rfl
  | cons p ps ih => exact (ih (s.commitResult p)).trans rfl
@[simp] theorem State.commitResults_dpc (ps : List InFlight) : (s.commitResults ps).dpc = s.dpc := by
  induction ps generalizing s with
  | nil => rfl
  | cons p ps ih => exact (ih (s.commitResult p)).trans rfl
@[simp] theorem State.commitResults_spc (ps : List InFlight) : (s.commitResults ps).spc = s.spc := by
  induction ps generalizing s with
  | nil => rfl
  | cons p ps ih => exact (ih (s.commitResult p)).trans rfl
@[simp] theorem State.commitResults_cccountMaster (ps : List InFlight) : (s.commitResults ps).cccountMaster = s.cccountMaster := by
  induction ps generalizing s with
  | nil => rfl
  | cons p ps ih => exact (ih (s.commitResult p)).trans rfl
@[simp] theorem State.commitResults_cccountSlave (ps : List InFlight) : (s.commitResults ps).cccountSlave = s.cccountSlave := by
  induction ps generalizing s with
  | nil => rfl
  | cons p ps ih => exact (ih (s.commitResult p)).trans rfl
@[simp] theorem State.commitResults_excPending (ps : List InFlight) : (s.commitResults ps).excPending = s.excPending := by
  induction ps generalizing s with
  | nil => rfl
  | cons p ps ih => exact (ih (s.commitResult p)).trans rfl
@[simp] theorem State.commitResults_pending (ps : List InFlight) : (s.commitResults ps).pending = s.pending := by
  induction ps generalizing s with
  | nil => rfl
  | cons p ps ih => exact (ih (s.commitResult p)).trans rfl
@[simp] theorem State.commitResults_mem (ps : List InFlight) : (s.commitResults ps).mem = s.mem := by
  induction ps generalizing s with
  | nil => rfl
  | cons p ps ih => exact (ih (s.commitResult p)).trans rfl
@[simp] theorem State.commitResults_stored (ps : List InFlight) : (s.commitResults ps).stored = s.stored := by
  induction ps generalizing s with
  | nil => rfl
  | cons p ps ih => exact (ih (s.commitResult p)).trans rfl
@[simp] theorem State.commitResults_draws (ps : List InFlight) : (s.commitResults ps).draws = s.draws := by
  induction ps generalizing s with
  | nil => rfl
  | cons p ps ih => exact (ih (s.commitResult p)).trans rfl
@[simp] theorem State.commitResults_breach (ps : List InFlight) : (s.commitResults ps).breach = s.breach := by
  induction ps generalizing s with
  | nil => rfl
  | cons p ps ih => exact (ih (s.commitResult p)).trans rfl
@[simp] theorem State.commitResults_agenda (ps : List InFlight) : (s.commitResults ps).agenda = s.agenda := by
  induction ps generalizing s with
  | nil => rfl
  | cons p ps ih => exact (ih (s.commitResult p)).trans rfl
@[simp] theorem State.commitResults_units (ps : List InFlight) : (s.commitResults ps).units = s.units := by
  induction ps generalizing s with
  | nil => rfl
  | cons p ps ih => exact (ih (s.commitResult p)).trans rfl
@[simp] theorem State.commitResults_globalPowerDown (ps : List InFlight) : (s.commitResults ps).globalPowerDown = s.globalPowerDown := by
  induction ps generalizing s with
  | nil => rfl
  | cons p ps ih => exact (ih (s.commitResult p)).trans rfl

@[simp] theorem State.commit_cfg : s.commit.cfg = s.cfg := State.commitResults_cfg s _
@[simp] theorem State.commit_program : s.commit.program = s.program := State.commitResults_program s _
@[simp] theorem State.commit_ip : s.commit.ip = s.ip := State.commitResults_ip s _
@[simp] theorem State.commit_dpc : s.commit.dpc = s.dpc := State.commitResults_dpc s _
@[simp] theorem State.commit_spc : s.commit.spc = s.spc := State.commitResults_spc s _
@[simp] theorem State.commit_cccountMaster : s.commit.cccountMaster = s.cccountMaster := State.commitResults_cccountMaster s _
@[simp] theorem State.commit_cccountSlave : s.commit.cccountSlave = s.cccountSlave := State.commitResults_cccountSlave s _
@[simp] theorem State.commit_excPending : s.commit.excPending = s.excPending := State.commitResults_excPending s _
@[simp] theorem State.commit_pending : s.commit.pending = s.pending.filter fun p => p.due != s.ip := rfl
@[simp] theorem State.commit_mem : s.commit.mem = s.mem := State.commitResults_mem s _
@[simp] theorem State.commit_stored : s.commit.stored = s.stored := State.commitResults_stored s _
@[simp] theorem State.commit_draws : s.commit.draws = s.draws := State.commitResults_draws s _
@[simp] theorem State.commit_breach : s.commit.breach = s.breach := State.commitResults_breach s _
@[simp] theorem State.commit_agenda : s.commit.agenda = s.agenda := State.commitResults_agenda s _
@[simp] theorem State.commit_units : s.commit.units = s.units := State.commitResults_units s _
@[simp] theorem State.commit_globalPowerDown : s.commit.globalPowerDown = s.globalPowerDown := State.commitResults_globalPowerDown s _

@[simp] theorem State.drain_cfg : s.drain.cfg = s.cfg := State.commitResults_cfg s _
@[simp] theorem State.drain_program : s.drain.program = s.program := State.commitResults_program s _
@[simp] theorem State.drain_ip : s.drain.ip = s.ip := State.commitResults_ip s _
@[simp] theorem State.drain_dpc : s.drain.dpc = s.dpc := State.commitResults_dpc s _
@[simp] theorem State.drain_spc : s.drain.spc = s.spc := State.commitResults_spc s _
@[simp] theorem State.drain_cccountMaster : s.drain.cccountMaster = s.cccountMaster := State.commitResults_cccountMaster s _
@[simp] theorem State.drain_cccountSlave : s.drain.cccountSlave = s.cccountSlave := State.commitResults_cccountSlave s _
@[simp] theorem State.drain_excPending : s.drain.excPending = s.excPending := State.commitResults_excPending s _
@[simp] theorem State.drain_pending : s.drain.pending = [] := rfl
@[simp] theorem State.drain_mem : s.drain.mem = s.mem := State.commitResults_mem s _
@[simp] theorem State.drain_stored : s.drain.stored = s.stored := State.commitResults_stored s _
@[simp] theorem State.drain_draws : s.drain.draws = s.draws := State.commitResults_draws s _
@[simp] theorem State.drain_breach : s.drain.breach = s.breach := State.commitResults_breach s _
@[simp] theorem State.drain_agenda : s.drain.agenda = s.agenda := State.commitResults_agenda s _
@[simp] theorem State.drain_units : s.drain.units = s.units := State.commitResults_units s _
@[simp] theorem State.drain_globalPowerDown : s.drain.globalPowerDown = s.globalPowerDown := State.commitResults_globalPowerDown s _

@[simp] theorem State.prepare_cfg (ops : List Instr) : (s.prepare ops).cfg = s.cfg := State.commit_cfg s
@[simp] theorem State.prepare_program (ops : List Instr) : (s.prepare ops).program = s.program := State.commit_program s
@[simp] theorem State.prepare_ip (ops : List Instr) : (s.prepare ops).ip = s.ip := State.commit_ip s
@[simp] theorem State.prepare_dpc (ops : List Instr) : (s.prepare ops).dpc = s.dpc := State.commit_dpc s
@[simp] theorem State.prepare_spc (ops : List Instr) : (s.prepare ops).spc = s.spc := State.commit_spc s
@[simp] theorem State.prepare_cccountMaster (ops : List Instr) : (s.prepare ops).cccountMaster = s.cccountMaster := State.commit_cccountMaster s
@[simp] theorem State.prepare_cccountSlave (ops : List Instr) : (s.prepare ops).cccountSlave = s.cccountSlave := State.commit_cccountSlave s
@[simp] theorem State.prepare_excPending (ops : List Instr) : (s.prepare ops).excPending = s.excPending := State.commit_excPending s
@[simp] theorem State.prepare_mem (ops : List Instr) : (s.prepare ops).mem = s.mem := State.commit_mem s
@[simp] theorem State.prepare_stored (ops : List Instr) : (s.prepare ops).stored = s.stored := State.commit_stored s
@[simp] theorem State.prepare_draws (ops : List Instr) : (s.prepare ops).draws = s.draws := State.commit_draws s
@[simp] theorem State.prepare_agenda (ops : List Instr) : (s.prepare ops).agenda = s.agenda := State.commit_agenda s
@[simp] theorem State.prepare_units (ops : List Instr) : (s.prepare ops).units = s.units := State.commit_units s
@[simp] theorem State.prepare_globalPowerDown (ops : List Instr) : (s.prepare ops).globalPowerDown = s.globalPowerDown := State.commit_globalPowerDown s
@[simp] theorem State.prepare_pending (ops : List Instr) :
    (s.prepare ops).pending = s.pending.filter fun p => p.due != s.ip := rfl
@[simp] theorem State.prepare_regs (ops : List Instr) : (s.prepare ops).regs = s.commit.regs := rfl
@[simp] theorem State.prepare_pcsw (ops : List Instr) : (s.prepare ops).pcsw = s.commit.pcsw := rfl
@[simp] theorem State.prepare_written (ops : List Instr) : (s.prepare ops).written = s.commit.written := rfl

end Sys2Proof.Machine
end

