-- ==== Sys2Proof/Laws/Ops.lean ====
section
/-! SUPPORT. What the shared operations can do, said once for each, for the proofs to cite. -/

namespace Sys2Proof.Machine

@[simp] theorem andThen_next (s : State) (f : State → Host.Outcome State Fault Refusal) :
    andThen (.next s) f = f s := rfl
@[simp] theorem andThen_fault (r : Fault) (f : State → Host.Outcome State Fault Refusal) :
    andThen (.fault r) f = .fault r := rfl
@[simp] theorem andThen_refused (r : Refusal) (f : State → Host.Outcome State Fault Refusal) :
    andThen (.refused r) f = .refused r := rfl

/-- A composed outcome is a next state only through a next state. -/
theorem andThen_eq_next {o : Host.Outcome State Fault Refusal} {f : State → Host.Outcome State Fault Refusal}
    {t : State} (h : andThen o f = .next t) : ∃ s, o = .next s ∧ f s = .next t := by
  cases o with
  | next s => exact ⟨s, rfl, h⟩
  | fault r => cases h
  | refused r => cases h

/-- With no other result for `d` in flight, a result is added as it is (R352 step 5 e). -/
theorem State.issue_pending_of_free {s : State} {d : RegNo} (h : s.inFlight d = false) (l : Nat) (v : Word)
    (f : FpFlags) : (s.issue d l v f).pending = s.pending ++ [s.resultRecord d l v f] := by
  simp [State.issue, h]

/-- With another result for `d` in flight, every result for `d` becomes free and the others stay (log 12). -/
theorem State.issue_pending_of_contended {s : State} {d : RegNo} (h : s.inFlight d = true) (l : Nat) (v : Word)
    (f : FpFlags) : (s.issue d l v f).pending =
      (s.pending ++ [s.resultRecord d l v f]).map (InFlight.contest s.draws d) := by
  simp [State.issue, h]

@[simp] theorem InFlight.contest_due (n : Nat) (d : RegNo) (p : InFlight) : (p.contest n d).due = p.due := by
  unfold InFlight.contest; split <;> rfl
@[simp] theorem InFlight.contest_issued (n : Nat) (d : RegNo) (p : InFlight) : (p.contest n d).issued = p.issued := by
  unfold InFlight.contest; split <;> rfl
@[simp] theorem InFlight.contest_dest (n : Nat) (d : RegNo) (p : InFlight) : (p.contest n d).dest = p.dest := by
  unfold InFlight.contest; split <;> rfl
@[simp] theorem InFlight.contest_flags (n : Nat) (d : RegNo) (p : InFlight) : (p.contest n d).flags = p.flags := by
  unfold InFlight.contest; split <;> rfl

/-- Every result in flight after an issue is one from before, or the new one, but for its value. -/
theorem State.mem_issue_pending {s : State} {d : RegNo} {l : Nat} {v : Word} {f : FpFlags} {p : InFlight}
    (h : p ∈ (s.issue d l v f).pending) :
    (∃ q ∈ s.pending, p.due = q.due ∧ p.issued = q.issued ∧ p.dest = q.dest ∧ p.flags = q.flags) ∨
      (p.due = s.ip + l ∧ p.issued = s.ip ∧ p.dest = d ∧ p.flags = f) := by
  cases hd : s.inFlight d with
  | false =>
    rw [State.issue_pending_of_free hd] at h
    rcases List.mem_append.1 h with h | h
    · exact .inl ⟨p, h, rfl, rfl, rfl, rfl⟩
    · rw [List.mem_singleton.1 h]; exact .inr ⟨rfl, rfl, rfl, rfl⟩
  | true =>
    rw [State.issue_pending_of_contended hd] at h
    obtain ⟨q, hq, rfl⟩ := List.mem_map.1 h
    rcases List.mem_append.1 hq with hq | hq
    · exact .inl ⟨q, hq, by simp⟩
    · rw [List.mem_singleton.1 hq]; right; simp [State.resultRecord]

/-- The operations with a destination always go on (R10, R352). -/
theorem State.issueWhen_cases (s : State) (g : Option RegNo) (d : RegNo) (a : Attributes) (v : Word) (f : FpFlags) :
    (s.guardHolds g = true ∧ s.issueWhen g d a v f = .next (s.issue d a.resultLatency v f)) ∨
      (s.guardHolds g = false ∧ s.issueWhen g d a v f = .next s) := by
  cases h : s.guardHolds g <;> simp [State.issueWhen, h]

/-- A store that goes on is an aligned store outside the MMIO aperture, or a misaligned one (R194, R195, R197). -/
theorem State.storeHalf_eq_next {s t : State} {a v : Word} (h : s.storeHalf a v = .next t) :
    (misaligned a = false ∧ halfInMmio s.cfg a = false ∧ t = s.storeAligned a v) ∨
      (misaligned a = true ∧ t = s.storeMisaligned a v) := by
  unfold State.storeHalf at h
  cases ha : misaligned a <;> rw [ha] at h
  · left
    cases hm : halfInMmio s.cfg a <;> rw [hm] at h <;> cases h
    exact ⟨rfl, rfl, rfl⟩
  · right; cases h; exact ⟨rfl, rfl⟩

/-- A guarded store that goes on stores, or does nothing under a false guard (R196). -/
theorem State.storeHalfWhen_eq_next {s t : State} {g : Option RegNo} {a v : Word}
    (h : s.storeHalfWhen g a v = .next t) :
    (s.guardHolds g = true ∧ s.storeHalf a v = .next t) ∨ (s.guardHolds g = false ∧ t = s) := by
  unfold State.storeHalfWhen at h
  cases hg : s.guardHolds g <;> rw [hg] at h
  · right; cases h; exact ⟨rfl, rfl⟩
  · left; exact ⟨rfl, h⟩

/-- What one operation can do: nothing, issue one result for its destination, or store two bytes. -/
inductive Effect (s : State) (i : Instr) : State → Prop
  | nothing : Effect s i s
  | issues (d : RegNo) (a : Attributes) (v : Word) (f : FpFlags) (hd : i.dest = some d)
      (ha : i.attributes s.cfg = some a) (hl : a.latency.isSome = true) (hg : s.guardHolds i.guard = true) :
      Effect s i (s.issue d a.resultLatency v f)
  | storesAligned (r : RegNo) (v : Word) (hr : i.storeAddressReg = some r) (hg : s.guardHolds i.guard = true)
      (hm : halfInMmio s.cfg (s.readReg r) = false) (ha : misaligned (s.readReg r) = false) :
      Effect s i (s.storeAligned (s.readReg r) v)
  | storesMisaligned (r : RegNo) (v : Word) (hr : i.storeAddressReg = some r) (hg : s.guardHolds i.guard = true)
      (ha : misaligned (s.readReg r) = true) :
      Effect s i (s.storeMisaligned (s.readReg r) v)

theorem effect_of_issueWhen {s t : State} {i : Instr} {d : RegNo} {a : Attributes} {v : Word} {f : FpFlags}
    (hd : i.dest = some d) (ha : i.attributes s.cfg = some a) (hl : a.latency.isSome = true)
    (h : s.issueWhen i.guard d a v f = .next t) : Effect s i t := by
  rcases s.issueWhen_cases i.guard d a v f with ⟨hg, e⟩ | ⟨_, e⟩ <;> rw [e] at h <;> cases h
  · exact .issues d a v f hd ha hl hg
  · exact .nothing

theorem effect_of_storeHalfWhen {s t : State} {i : Instr} {r : RegNo} {v : Word} (hr : i.storeAddressReg = some r)
    (h : s.storeHalfWhen i.guard (s.readReg r) v = .next t) : Effect s i t := by
  rcases State.storeHalfWhen_eq_next h with ⟨hg, h⟩ | ⟨_, rfl⟩
  · obtain ⟨ha, hm, rfl⟩ | ⟨ha, rfl⟩ := State.storeHalf_eq_next h
    · exact .storesAligned r v hr hg hm ha
    · exact .storesMisaligned r v hr hg ha
  · exact .nothing

/-- The inversion of exec: an operation that answers a next state has one of the four effects. -/
theorem exec_effect {s t : State} {i : Instr} (h : exec i s = .next t) : Effect s i t := by
  cases i with
  | hSt16d g a b d k =>
    change (if d = 0 then s.storeHalfWhen g (s.readReg a) (s.readReg b) else _) = _ at h
    split at h
    · exact effect_of_storeHalfWhen (i := .hSt16d g a b d k) rfl h
    · cases h
  | st16 g a b k => exact effect_of_storeHalfWhen (i := .st16 g a b k) rfl h
  | carry g a b d k => exact effect_of_issueWhen (i := .carry g a b d k) rfl rfl rfl h
  | mergemsb g a b d k => exact effect_of_issueWhen (i := .mergemsb g a b d k) rfl rfl rfl h
  | ume8ii g a b d k => exact effect_of_issueWhen (i := .ume8ii g a b d k) rfl rfl rfl h
  | hDspiabs g a b d k =>
    change (if a = 0 then s.issueWhen g d dspiabsAttributes (dspiabsValue (s.readReg b)) noFlags else _) = _ at h
    split at h
    · exact effect_of_issueWhen (i := .hDspiabs g a b d k) rfl rfl rfl h
    · cases h
  | dspiabs g b d k => exact effect_of_issueWhen (i := .dspiabs g b d k) rfl rfl rfl h
  | ifixieee g a d k => exact effect_of_issueWhen (i := .ifixieee g a d k) rfl rfl rfl h
  | cycles g d k => exact effect_of_issueWhen (i := .cycles g d k) rfl rfl rfl h
  | uimm n d k => exact effect_of_issueWhen (i := .uimm n d k) rfl rfl rfl h
  | prefd g a d k =>
    have : t = s := by
      change Host.Outcome.next (if s.guardHolds g then s.prefetch _ else s) = _ at h
      injection h with h
      rw [← h, State.prefetch, ite_self]
    exact this ▸ .nothing
  | quadavg g a b d k => exact effect_of_issueWhen (i := .quadavg g a b d k) rfl rfl rfl h
  | dspuquadaddui g a b d k => exact effect_of_issueWhen (i := .dspuquadaddui g a b d k) rfl rfl rfl h
  | uclipi k => cases h
  | hicycles k => cases h
  | ifixieeeflags k => cases h
  | writedpc k => cases h
  | writepcsw k => cases h
  | writespc k => cases h
  | uleqi k => cases h
  | ules k => cases h
  | ulesi k => cases h
  | ume8uu k => cases h
  | umin k => cases h
  | umul k => cases h
  | umulm k => cases h
  | uneq k => cases h
  | uneqi k => cases h
  | zex16 k => cases h
  | zex8 k => cases h
  | alloc k => cases h
  | allocd k => cases h
  | allocr k => cases h
  | allocx k => cases h

end Sys2Proof.Machine
end

