-- ==== Sys2Proof/Laws/PerInstr.lean ====
section
/-! SUPPORT. Facts about each operation as syntax, one lemma per constructor. -/

namespace Sys2Proof.Laws.RecordFields

/-- The record of an operation carries its slot, its guard and its destination. -/
def Statement (i : Instr) : Prop :=
  (encode i).slot = i.slot ∧ (encode i).guard = i.guard ∧ (encode i).dest = i.dest

theorem hSt16d (g : Option RegNo) (a b : RegNo) (d : Int) (k : Nat) : Statement (.hSt16d g a b d k) := ⟨rfl, rfl, rfl⟩
theorem st16 (g : Option RegNo) (a b : RegNo) (k : Nat) : Statement (.st16 g a b k) := ⟨rfl, rfl, rfl⟩
theorem carry (g : Option RegNo) (a b d : RegNo) (k : Nat) : Statement (.carry g a b d k) := ⟨rfl, rfl, rfl⟩
theorem mergemsb (g : Option RegNo) (a b d : RegNo) (k : Nat) : Statement (.mergemsb g a b d k) := ⟨rfl, rfl, rfl⟩
theorem ume8ii (g : Option RegNo) (a b d : RegNo) (k : Nat) : Statement (.ume8ii g a b d k) := ⟨rfl, rfl, rfl⟩
theorem hDspiabs (g : Option RegNo) (a b d : RegNo) (k : Nat) : Statement (.hDspiabs g a b d k) := ⟨rfl, rfl, rfl⟩
theorem dspiabs (g : Option RegNo) (b d : RegNo) (k : Nat) : Statement (.dspiabs g b d k) := ⟨rfl, rfl, rfl⟩
theorem ifixieee (g : Option RegNo) (a d : RegNo) (k : Nat) : Statement (.ifixieee g a d k) := ⟨rfl, rfl, rfl⟩
theorem cycles (g : Option RegNo) (d : RegNo) (k : Nat) : Statement (.cycles g d k) := ⟨rfl, rfl, rfl⟩
theorem uimm (n : Nat) (d : RegNo) (k : Nat) : Statement (.uimm n d k) := ⟨rfl, rfl, rfl⟩
theorem prefd (g : Option RegNo) (a : RegNo) (d : Int) (k : Nat) : Statement (.prefd g a d k) := ⟨rfl, rfl, rfl⟩
theorem quadavg (g : Option RegNo) (a b d : RegNo) (k : Nat) : Statement (.quadavg g a b d k) := ⟨rfl, rfl, rfl⟩
theorem dspuquadaddui (g : Option RegNo) (a b d : RegNo) (k : Nat) : Statement (.dspuquadaddui g a b d k) := ⟨rfl, rfl, rfl⟩
theorem uclipi (k : Nat) : Statement (.uclipi k) := ⟨rfl, rfl, rfl⟩
theorem hicycles (k : Nat) : Statement (.hicycles k) := ⟨rfl, rfl, rfl⟩
theorem ifixieeeflags (k : Nat) : Statement (.ifixieeeflags k) := ⟨rfl, rfl, rfl⟩
theorem writedpc (k : Nat) : Statement (.writedpc k) := ⟨rfl, rfl, rfl⟩
theorem writepcsw (k : Nat) : Statement (.writepcsw k) := ⟨rfl, rfl, rfl⟩
theorem writespc (k : Nat) : Statement (.writespc k) := ⟨rfl, rfl, rfl⟩
theorem uleqi (k : Nat) : Statement (.uleqi k) := ⟨rfl, rfl, rfl⟩
theorem ules (k : Nat) : Statement (.ules k) := ⟨rfl, rfl, rfl⟩
theorem ulesi (k : Nat) : Statement (.ulesi k) := ⟨rfl, rfl, rfl⟩
theorem ume8uu (k : Nat) : Statement (.ume8uu k) := ⟨rfl, rfl, rfl⟩
theorem umin (k : Nat) : Statement (.umin k) := ⟨rfl, rfl, rfl⟩
theorem umul (k : Nat) : Statement (.umul k) := ⟨rfl, rfl, rfl⟩
theorem umulm (k : Nat) : Statement (.umulm k) := ⟨rfl, rfl, rfl⟩
theorem uneq (k : Nat) : Statement (.uneq k) := ⟨rfl, rfl, rfl⟩
theorem uneqi (k : Nat) : Statement (.uneqi k) := ⟨rfl, rfl, rfl⟩
theorem zex16 (k : Nat) : Statement (.zex16 k) := ⟨rfl, rfl, rfl⟩
theorem zex8 (k : Nat) : Statement (.zex8 k) := ⟨rfl, rfl, rfl⟩
theorem alloc (k : Nat) : Statement (.alloc k) := ⟨rfl, rfl, rfl⟩
theorem allocd (k : Nat) : Statement (.allocd k) := ⟨rfl, rfl, rfl⟩
theorem allocr (k : Nat) : Statement (.allocr k) := ⟨rfl, rfl, rfl⟩
theorem allocx (k : Nat) : Statement (.allocx k) := ⟨rfl, rfl, rfl⟩

end Sys2Proof.Laws.RecordFields
end

