-- ==== Sys2Proof/Laws/Step.lean ====
section
/-! SUPPORT. What one step can do: a unit event, a wait, the end of the run, or one instruction. -/

namespace Sys2Proof.Machine

/-- An operation leaves everything but results in flight, memory, the stores of the instruction, MSE and the exception
request as it was. -/
theorem Effect.frame {s t : State} {i : Instr} (h : Effect s i t) :
    t = { s with pending := t.pending, mem := t.mem, stored := t.stored, excPending := t.excPending,
                 pcsw := { s.pcsw with mse := t.pcsw.mse } } := by
  cases h with
  | nothing => rfl
  | issues => unfold State.issue; dsimp only; split <;> rfl
  | storesAligned => rfl
  | storesMisaligned => rfl

/-- A unit event leaves everything but the units, memory and the power-down mode as it was. -/
theorem unitEvent_frame {e : UnitEvent} {s t : State} (h : unitEvent e s = .next t) :
    t = { s with units := t.units, mem := t.mem, globalPowerDown := t.globalPowerDown } := by
  have refusable {α : Type} (x : Except Refusal α) (f : α → State) (h : orRefuse x f = .next t) : ∃ u, t = f u := by
    cases x with
    | ok u => exact ⟨u, by cases h; rfl⟩
    | error r => cases h
  cases e <;> first
    | (cases h; rfl)
    | (obtain ⟨u, rfl⟩ := refusable _ _ h; rfl)

/-- The next state of a unit's turn. -/
theorem unitStep_eq_next {e : UnitEvent} {s t : State} (h : unitStep e s = .next t) :
    ∃ u, unitEvent e s = .next u ∧ t = u.wake := by
  obtain ⟨u, hu, ht⟩ := andThen_eq_next h
  exact ⟨u, hu, by cases ht; rfl⟩

/-- The next state of one operation of an instruction. -/
theorem execOperation_eq_next {i : Instr} {s t : State} (h : execOperation i s = .next t) :
    ∃ u, exec i s = .next u ∧ t = { u with draws := u.draws + 1 } := by
  obtain ⟨u, hu, ht⟩ := andThen_eq_next h
  exact ⟨u, hu, by cases ht; rfl⟩

/-- The induction over the operations of an instruction: what holds before and is kept by each operation holds after. -/
theorem execOperations_induct {P : State → Prop} {ops : List Instr} {s t : State}
    (h : execOperations ops s = .next t) (hs : P s)
    (keep : ∀ i ∈ ops, ∀ u w, P u → Effect u i w → P { w with draws := w.draws + 1 }) : P t := by
  induction ops generalizing s with
  | nil => cases h; exact hs
  | cons i rest ih =>
    obtain ⟨u, hu, hrest⟩ := andThen_eq_next h
    obtain ⟨w, hw, rfl⟩ := execOperation_eq_next hu
    exact ih hrest (keep i List.mem_cons_self s w hs (exec_effect hw))
      fun j hj => keep j (List.mem_cons_of_mem _ hj)

/-- The next state of an instruction. -/
theorem executeInstruction_eq_next {recs : List OpRecord} {s t : State} (h : executeInstruction recs s = .next t) :
    ∃ ops u, checkInstruction s.cfg s.nRegs recs = .ok ops ∧ execOperations ops (s.prepare ops) = .next u ∧
      t = u.advance := by
  unfold executeInstruction at h
  cases hc : checkInstruction s.cfg s.nRegs recs with
  | error r => rw [hc] at h; cases h
  | ok ops =>
    rw [hc] at h
    obtain ⟨u, hu, ht⟩ := andThen_eq_next h
    exact ⟨ops, u, rfl, hu, by cases ht; rfl⟩

/-- The inversion of step: a unit's turn, a wait, the end of the run, or one instruction. -/
theorem step_cases {s t : State} (h : step s = .next t) :
    (∃ e rest u, s.agenda = e :: rest ∧ unitEvent e { s with agenda := rest } = .next u ∧ t = u.wake) ∨
    (s.agenda = [] ∧ s.globalPowerDown = true ∧ t = s) ∨
    (s.onTurn ∧ s.fetch = none ∧ t = s.drain) ∨
    (∃ recs ops u, s.onTurn ∧ s.fetch = some recs ∧ checkInstruction s.cfg s.nRegs recs = .ok ops ∧
      execOperations ops (s.prepare ops) = .next u ∧ t = u.advance) := by
  unfold step at h
  split at h
  · rename_i e rest ha
    obtain ⟨u, hu, ht⟩ := unitStep_eq_next h
    exact .inl ⟨e, rest, u, ha, hu, ht⟩
  · rename_i ha
    right
    unfold dspcpuStep at h
    split at h
    · rename_i hp; cases h; exact .inl ⟨ha, hp, rfl⟩
    · rename_i hp
      have turn : s.onTurn := ⟨ha, by simpa using hp⟩
      right
      split at h
      · rename_i hf; cases h; exact .inl ⟨turn, hf, rfl⟩
      · rename_i recs hf
        obtain ⟨ops, u, hc, hu, ht⟩ := executeInstruction_eq_next h
        exact .inr ⟨recs, ops, u, turn, hf, hc, hu, ht⟩

/-- Every operation of a checked instruction passes the checks of R119. -/
theorem checkInstruction_ok {c : Config} {n : Nat} {recs : List OpRecord} {ops : List Instr}
    (h : checkInstruction c n recs = .ok ops) :
    ops = operationsOf recs ∧ ∀ i ∈ ops, i.formOk c n = true ∧ i.namedOnly = none ∧ lateRefusal i = none := by
  unfold checkInstruction at h
  dsimp only at h
  split at h
  · cases h
  · split at h
    · cases h
    · rename_i hn
      split at h
      · cases h
      · rename_i hf
        split at h
        · cases h
        · rename_i hl
          cases h
          refine ⟨rfl, fun i hi => ⟨?_, List.findSome?_eq_none_iff.1 hn i hi, List.findSome?_eq_none_iff.1 hl i hi⟩⟩
          simp only [Bool.or_eq_true, not_or] at hf
          have := hf.2
          simp only [Bool.not_eq_true', Bool.not_eq_false] at this
          exact List.all_eq_true.1 this i hi

end Sys2Proof.Machine
end

