-- ==== Sys2Proof/Laws/Units.lean ====
section
/-! SUPPORT. What the functions of the units can change, said once for each, and the small lemmas of their state. -/

namespace Sys2Proof.Machine

/-! ### Enhanced Video Out -/

@[simp] theorem EvoBits.empty_setEmpty (f : EvoBits) (b : Buffer) : (f.setEmpty b).empty b = true := by
  cases b <;> rfl
@[simp] theorem EvoBits.empty_setEmpty_other (f : EvoBits) (b : Buffer) :
    (f.setEmpty b).empty b.other = f.empty b.other := by
  cases b <;> rfl
@[simp] theorem EvoBits.urun_setEmpty (f : EvoBits) (b : Buffer) : (f.setEmpty b).urun = f.urun := by cases b <;> rfl

/-- The end of a buffer leaves every register but VO_ENABLE, which it can only clear. -/
theorem VideoOut.bufferEmpty_frame (u : VideoOut) (b : Buffer) :
    let v := u.bufferEmpty b
    v = { u with flags := v.flags, voEnable := v.voEnable, startSent := v.startSent, endSent := v.endSent,
                 sending := v.sending } ∧ (v.voEnable = true → u.voEnable = true) := by
  simp only [VideoOut.bufferEmpty, VideoOut.exchange]
  repeat' split
  all_goals exact ⟨rfl, fun h => by first | exact h | cases h⟩

/-- A clock of a data mode leaves every register but VO_ENABLE, which it can only clear. -/
theorem VideoOut.clock_frame (u : VideoOut) (m : Memory) :
    let v := u.clock m
    v = { u with flags := v.flags, voEnable := v.voEnable, startSent := v.startSent, endSent := v.endSent,
                 sending := v.sending, data := v.data, io1Pulse := v.io1Pulse } ∧
      (v.voEnable = true → u.voEnable = true) := by
  have sendByte : let v := u.sendByte m
      v = { u with flags := v.flags, voEnable := v.voEnable, startSent := v.startSent, endSent := v.endSent,
                   sending := v.sending, data := v.data, io1Pulse := v.io1Pulse } ∧
        (v.voEnable = true → u.voEnable = true) := by
    simp only [VideoOut.sendByte]
    split
    · have h := VideoOut.bufferEmpty_frame { u with
        data := [unitByte m u.sending.pointer], io1Pulse := false,
        sending := { u.sending with pointer := u.sending.pointer + 1, left := u.sending.left - 1 } } u.sending.active
      exact ⟨by rw [h.1], h.2⟩
    · exact ⟨rfl, id⟩
  simp only [VideoOut.clock]
  split
  · split
    · exact ⟨rfl, id⟩
    · exact ⟨rfl, id⟩
    · exact sendByte
    · exact ⟨rfl, id⟩
  · exact ⟨rfl, id⟩

/-- What the pixels of a video-refresh mode may change: flags, the pointers in transfer, counters and data. -/
abbrev VideoOut.PixelFrame (u v : VideoOut) : Prop :=
  v = { u with flags := v.flags, fieldPointers := v.fieldPointers, frameLine := v.frameLine,
               framePixel := v.framePixel, areaField := v.areaField, imagePosition := v.imagePosition, data := v.data,
               undefinedSent := v.undefinedSent }

theorem VideoOut.PixelFrame.trans {u v w : VideoOut} (h : u.PixelFrame v) (k : v.PixelFrame w) : u.PixelFrame w :=
  Eq.trans k (by rw [h])

/-- Starting a field's image area sets URUN alone, or takes the new pointers (R284). -/
theorem VideoOut.startField_cases (u : VideoOut) :
    (u.flags.ytr = true ∧ u.startField = { u with flags := { u.flags with urun := true }, imagePosition := 0 }) ∨
      (u.flags.ytr = false ∧ u.startField = { u with fieldPointers := u.nextPointers, imagePosition := 0 }) := by
  cases h : u.flags.ytr <;> simp [VideoOut.startField, h]

theorem VideoOut.enterArea_frame (u : VideoOut) : u.PixelFrame u.enterArea := by
  simp only [VideoOut.enterArea]
  split
  · split
    · rfl
    · rcases u.startField_cases with ⟨_, h⟩ | ⟨_, h⟩ <;> rw [h]
  · split <;> rfl

theorem VideoOut.sendPixel_frame (u : VideoOut) (m : Memory) : u.PixelFrame (u.sendPixel m) := by
  simp only [VideoOut.sendPixel]
  split
  · split <;> rfl
  · rfl

theorem VideoOut.nextPixel_frame (u : VideoOut) : u.PixelFrame u.nextPixel := by
  simp only [VideoOut.nextPixel, VideoOut.nextLine]
  split
  · split <;> rfl
  · rfl

/-- A pixel time of a video-refresh mode leaves every register. -/
theorem VideoOut.pixelTime_frame (u : VideoOut) (m : Memory) : u.PixelFrame (u.pixelTime m) := by
  simp only [VideoOut.pixelTime]
  split
  · exact (u.enterArea_frame.trans (VideoOut.sendPixel_frame _ m)).trans (VideoOut.nextPixel_frame _)
  · rfl

/-- Setting VO_ENABLE starts a transfer and leaves every register. -/
theorem VideoOut.enable_frame (u : VideoOut) :
    let v := u.enable
    v = { u with framing := v.framing, frameLine := v.frameLine, framePixel := v.framePixel,
                 areaField := v.areaField, imagePosition := v.imagePosition, fieldPointers := v.fieldPointers, sending := v.sending,
                 startSent := v.startSent, endSent := v.endSent } := by
  simp only [VideoOut.enable]
  split <;> rfl

/-- An acknowledge can only start the sending of a buffer. -/
theorem VideoOut.resume_frame (u : VideoOut) (acks : EvoBits) :
    u.resume acks = { u with sending := (u.resume acks).sending } := by
  simp only [VideoOut.resume]
  split <;> rfl

/-- A write of VO_CTL that is not refused leaves the control fields written (R284 to R287). -/
theorem VideoOut.writeCtl_eq_ok {u v : VideoOut} {w : VoCtlWrite} (h : u.writeCtl w = .ok v) :
    w.resetOk = true ∧ w.intensOk = true ∧ v.mode = w.mode ∧ v.reset = w.reset ∧ v.voEnable = w.voEnable ∧
      v.enables = w.enables ∧ v.flags = u.flags.acknowledge w.acks ∧ v.base1 = u.base1 ∧ v.base2 = u.base2 ∧
      v.videoPixelStart = u.videoPixelStart := by
  unfold VideoOut.writeCtl at h
  split at h
  · cases h
  · rename_i hr
    split at h
    · cases h
    · rename_i hi
      simp only [Bool.not_eq_true', Bool.not_eq_false] at hr hi
      split at h <;> cases h
      · rw [VideoOut.enable_frame]; exact ⟨hr, hi, rfl, rfl, rfl, rfl, rfl, rfl, rfl, rfl⟩
      · rw [VideoOut.resume_frame]; exact ⟨hr, hi, rfl, rfl, rfl, rfl, rfl, rfl, rfl, rfl⟩

/-! ### Image Coprocessor -/

@[simp] theorem Icp.takeChroma_parameters (u : Icp) : u.takeChroma.parameters = u.parameters := by
  simp only [Icp.takeChroma]; split <;> rfl
@[simp] theorem Icp.takeChroma_alpha1 (u : Icp) : u.takeChroma.alpha1 = u.alpha1 := by
  simp only [Icp.takeChroma]; split <;> rfl
@[simp] theorem Icp.takeChroma_alpha0 (u : Icp) : u.takeChroma.alpha0 = u.alpha0 := by
  simp only [Icp.takeChroma]; split <;> rfl

/-- Sending a pixel changes the output address and the pixel on PCI only. -/
theorem Icp.send_frame (u : Icp) (bytes : List Byte) (m : Memory) :
    (u.send bytes m).1 = { u with target := (u.send bytes m).1.target, pciPixel := (u.send bytes m).1.pciPixel } := by
  simp only [Icp.send]
  split <;> rfl

/-- What a produced pixel leaves of the parameters, alpha registers, place and scaling counters. -/
theorem Icp.producePixel_fields (u : Icp) (m : Memory) :
    let v := (u.producePixel m).1
    v.parameters = u.parameters ∧ v.alpha1 = u.alpha1 ∧ v.alpha0 = u.alpha0 ∧ v.pixel = u.pixel + 1 ∧
      v.yCounter = u.yCounter + u.parameters.y.increment.toNat ∧ v.uCounter = u.takeChroma.uCounter ∧
      v.vCounter = u.takeChroma.vCounter := by
  simp only [Icp.producePixel]
  rw [Icp.send_frame]
  simp

/-- Loading the table at an address is loading the parameters that it holds (R316). -/
theorem unitEvent_icpLoadTable (a : Word) (s : State) :
    unitEvent (.icpLoadTable a) s = unitEvent (.icpLoadParameters (Config.icpTable (unitByte s.mem) a)) s := rfl

/-! ### PCI-XIO bus -/

/-- The bits of a word of four bytes. -/
theorem getLsbD_wordOf (b3 b2 b1 b0 : Byte) (i : Nat) : (wordOf b3 b2 b1 b0).getLsbD i =
    if i < 8 then b0.getLsbD i else if i < 16 then b1.getLsbD (i - 8)
      else if i < 24 then b2.getLsbD (i - 16) else b3.getLsbD (i - 24) := by
  have h : (wordOf b3 b2 b1 b0).getLsbD i = ((((b3 ++ b2) ++ b1) ++ b0 : BitVec (8 + 8 + 8 + 8))).getLsbD i := rfl
  rw [h, BitVec.getLsbD_append, BitVec.getLsbD_append, BitVec.getLsbD_append]
  by_cases h0 : i < 8
  · simp [h0]
  by_cases h1 : i < 16
  · simp [h0, h1, show i - 8 < 8 by omega]
  by_cases h2 : i < 24
  · simp [h0, h1, h2, show ¬ i - 8 < 8 by omega, show i - 16 < 8 by omega, show i - 8 - 8 = i - 16 by omega]
  · simp [h0, h1, h2, show ¬ i - 8 < 8 by omega, show ¬ i - 8 - 8 < 8 by omega, show i - 8 - 8 - 8 = i - 24 by omega]

/-- A replaced byte is the one read back. -/
theorem byteOf_setByte (v : Word) (k : Fin 4) (b : Byte) : byteOf (setByte v k b) k = b := by
  refine BitVec.eq_of_getLsbD_eq fun i hi => ?_
  simp only [byteOf, setByte, BitVec.getLsbD_extractLsb', getLsbD_wordOf, hi, decide_true, Bool.true_and]
  match k with
  | 0 => simp [hi]
  | 1 => simp [show 8 + i < 16 by omega]
  | 2 => simp [show ¬ 16 + i < 8 by omega, show 16 + i < 24 by omega]
  | 3 => simp [show ¬ 24 + i < 8 by omega, show ¬ 24 + i < 16 by omega]

end Sys2Proof.Machine
end

