-- ==== Sys2Proof/Tests/Slice0.lean ====
section
/-! SUPPORT. Small tests with results from 95_test_vectors.md or worked out by hand from the spec, and witnesses: concrete
states that meet the hypotheses of the obligations. -/

namespace Sys2Proof.Tests

open Sys2Proof Sys2Proof.Machine

-- One test after the other: tests elaborated side by side each hold a thread while they wait for the kernel.
set_option Elab.async false

/-- The state after reset with some registers written. -/
def holding (l : List (RegNo × Word)) : State :=
  { State.reset with regs := l.foldl (fun rs p => rs.set p.1 p.2) State.reset.regs, written := l.map Prod.fst }

/-- A state with a program. -/
def State.running (s : State) (p : List (List Instr)) : State := { s with program := p.map (List.map encode) }

/-- The next state, where there is one. -/
def next (o : Host.Outcome State Fault Refusal) : Option State :=
  match o with
  | .next t => some t
  | _ => none

/-- The result that an operation issued last: latency counted from the reset position, destination, value, flags. -/
def issued (i : Instr) (s : State) : Option (Nat × RegNo × Word × FpFlags) := do
  let t ← next (exec i s)
  let p ← t.pending.getLast?
  return (p.due, p.dest, p.value, p.flags)

/-- What a step answers where it does not go on. -/
def refusal (s : State) : Option Refusal :=
  match step s with
  | .refused r => some r
  | _ => none

/-- A step faults. -/
def faulted (s : State) : Bool :=
  match step s with
  | .fault _ => true
  | _ => false

/-! ### Decoding, words written out field by field (log 17): modifier, dest, src2, src1, guard, slot, presence, operation -/

theorem test_decode_carry :
    decodeTableWord 160 0x00000000000000000050001e00460000010e002d = some (.carry none 70 30 80 1) := by
  decide +kernel
theorem test_decode_carry_guarded :
    decodeTableWord 160 0x0000000000000000000b001e00500064010f002d = some (.carry (some 100) 80 30 11 1) := by
  decide +kernel
theorem test_decode_mergemsb :
    decodeTableWord 160 0x00000000000000000032001e00500000020e003a = some (.mergemsb none 80 30 50 2) := by
  decide +kernel
theorem test_decode_ume8ii :
    decodeTableWord 160 0x00000000000000000064001e00500000010e0040 = some (.ume8ii none 80 30 100 1) := by
  decide +kernel
theorem test_decode_h_dspiabs :
    decodeTableWord 160 0x0000000000000000003c001e00000000030e0041 = some (.hDspiabs none 0 30 60 3) := by
  decide +kernel
theorem test_decode_dspiabs :
    decodeTableWord 160 0x0000000000000000003c001e00000000030c0117 = some (.dspiabs none 30 60 3) := by
  decide +kernel
/-- 2.3: the record that `dspiabs r30 → r60` becomes; without a first source the code 65 record fits no form (R113). -/
theorem test_decode_code_65 : decode ⟨.code 65, none, some 0, some 30, some 60, none, 3⟩ = .ok (.hDspiabs none 0 30 60 3) ∧
    decode ⟨.code 65, none, none, some 30, some 60, none, 3⟩ = .error .illFormed := by decide +kernel
theorem test_decode_ifixieee :
    decodeTableWord 160 0x00000000000000000066000000230000010a0079 = some (.ifixieee none 35 102 1) := by
  decide +kernel
theorem test_decode_cycles :
    decodeTableWord 160 0x0000000000000000003c0000000000000308009a = some (.cycles none 60 3) := by
  decide +kernel
theorem test_decode_uimm :
    decodeTableWord 160 0x00000000fffffffc001e000000000000011800bf = some (.uimm 0xfffffffc 30 1) := by
  decide +kernel
theorem test_decode_prefd :
    decodeTableWord 160 0xffffffffffffff0000000000000a000b051300d1 = some (.prefd (some 11) 10 (-256) 5) := by
  decide +kernel
theorem test_decode_h_st16d :
    decodeTableWord 160 0x000000000000000000000050000a003c0417001e = some (.hSt16d (some 60) 10 80 0 4) := by
  decide +kernel
theorem test_decode_st16 :
    decodeTableWord 160 0x000000000000000000000050001e00320507001e = some (.st16 (some 50) 30 80 5) := by
  decide +kernel
theorem test_decode_quadavg :
    decodeTableWord 160 0x00000000000000000014000b000a0000010e0100 = some (.quadavg none 10 11 20 1) := by
  decide +kernel
theorem test_decode_dspuquadaddui :
    decodeTableWord 160 0x00000000000000000015000c00140000030e0101 = some (.dspuquadaddui none 20 12 21 3) := by
  decide +kernel
theorem test_decode_named_first :
    decodeTableWord 160 0x01000102 = some (.uclipi 1) ∧
    decodeTableWord 160 0x01000103 = some (.hicycles 1) ∧
    decodeTableWord 160 0x01000104 = some (.ifixieeeflags 1) ∧
    decodeTableWord 160 0x01000105 = some (.writedpc 1) ∧
    decodeTableWord 160 0x01000106 = some (.writepcsw 1) ∧
    decodeTableWord 160 0x01000107 = some (.writespc 1) ∧
    decodeTableWord 160 0x01000108 = some (.uleqi 1) ∧
    decodeTableWord 160 0x01000109 = some (.ules 1) ∧
    decodeTableWord 160 0x0100010a = some (.ulesi 1) ∧
    decodeTableWord 160 0x0100010b = some (.ume8uu 1) := by decide +kernel
theorem test_decode_named_second :
    decodeTableWord 160 0x0100010c = some (.umin 1) ∧
    decodeTableWord 160 0x0100010d = some (.umul 1) ∧
    decodeTableWord 160 0x0100010e = some (.umulm 1) ∧
    decodeTableWord 160 0x0100010f = some (.uneq 1) ∧
    decodeTableWord 160 0x01000110 = some (.uneqi 1) ∧
    decodeTableWord 160 0x01000111 = some (.zex16 1) ∧
    decodeTableWord 160 0x01000112 = some (.zex8 1) ∧
    decodeTableWord 160 0x01000113 = some (.alloc 1) ∧
    decodeTableWord 160 0x01000114 = some (.allocd 1) ∧
    decodeTableWord 160 0x01000115 = some (.allocr 1) ∧
    decodeTableWord 160 0x01000116 = some (.allocx 1) := by decide +kernel

/-! ### Well-formedness: one ill-formed term for each check (R119) -/

theorem test_wf_admits : (Instr.carry (some 100) 80 30 11 1).wf resetConfig 128 = true ∧
    (Instr.prefd none 10 252 5).wf resetConfig 128 = true ∧ (Instr.uimm 0xffffffff 2 5).wf resetConfig 128 = true ∧
    (Instr.hDspiabs none 0 30 60 3).wf resetConfig 128 = true ∧ (Instr.hSt16d none 10 80 0 4).wf resetConfig 128 = true ∧
    instructionWf resetConfig 128 [] = true := by decide +kernel
theorem test_wf_slot : (Instr.cycles none 5 1).wf resetConfig 128 = false ∧
    (Instr.ume8ii none 80 30 100 2).wf resetConfig 128 = false ∧ (Instr.prefd none 10 4 4).wf resetConfig 128 = false ∧
    (Instr.hicycles 3).wf resetConfig 128 = false := by decide +kernel
theorem test_wf_registers : (Instr.carry (some 128) 1 2 3 1).wf resetConfig 128 = false ∧
    (Instr.carry none 128 2 3 1).wf resetConfig 128 = false ∧ (Instr.carry none 1 128 3 1).wf resetConfig 128 = false ∧
    (Instr.carry none 1 2 128 1).wf resetConfig 128 = false := by decide +kernel
theorem test_wf_destination : (Instr.uimm 1 0 1).wf resetConfig 128 = false ∧
    (Instr.uimm 1 1 1).wf resetConfig 128 = false := by decide +kernel
theorem test_wf_modifier : (Instr.prefd none 10 0xd 5).wf resetConfig 128 = false ∧
    (Instr.prefd none 10 256 5).wf resetConfig 128 = false ∧ (Instr.prefd none 10 (-260) 5).wf resetConfig 128 = false ∧
    (Instr.uimm 0x100000000 5 1).wf resetConfig 128 = false := by decide +kernel
theorem test_wf_operand_values : (Instr.hDspiabs none 5 30 60 1).wf resetConfig 128 = false ∧
    (Instr.hSt16d none 10 80 4 4).wf resetConfig 128 = false := by decide +kernel
theorem test_wf_instruction : instructionWf resetConfig 128 [.uimm 1 5 1, .uimm 2 6 1] = false ∧
    instructionWf resetConfig 128 (List.replicate 6 (.uimm 1 5 1)) = false := by decide +kernel
theorem test_wf_config : { resetConfig with cacheBlockSize := 48 }.wf = false ∧
    { resetConfig with quadavgLatency := 0 }.wf = false ∧ resetConfig.wf = true := by decide +kernel

/-! ### One operation each (95_test_vectors.md; the row is named in front of the vector) -/

/-- 1.1 rows 4 and 2.1; 1.1 row 2: a false guard. -/
theorem test_carry : issued (.carry none 60 30 110 1) (holding [(60, 4), (30, 0xffffffff)]) =
      some (1, 110, 1, noFlags) ∧
    issued (.carry none 70 30 80 1) (holding [(70, 2), (30, 0xfffffffc)]) = some (1, 80, 0, noFlags) ∧
    issued (.carry (some 10) 70 30 90 1) (holding [(10, 2), (70, 2), (30, 0xffffffff)]) = none := by decide +kernel
/-- 2.2 rows 1, 2, 4. -/
theorem test_mergemsb : issued (.mergemsb none 5 6 50 1) (holding [(5, 0x12345678), (6, 0xaabbccdd)]) =
      some (1, 50, 0x12aa34bb, noFlags) ∧
    issued (.mergemsb none 6 5 50 1) (holding [(5, 0x12345678), (6, 0xaabbccdd)]) = some (1, 50, 0xaa12bb34, noFlags) ∧
    issued (.mergemsb none 5 6 5 1) (holding [(5, 0xffff0000)]) = some (1, 5, 0xff00ff00, noFlags) := by decide +kernel
/-- 2.4 rows 3, 5, 7. -/
theorem test_ume8ii : issued (.ume8ii none 5 6 7 1) (holding [(5, 0x7f7f7f7f), (6, 0x80808080)]) =
      some (2, 7, 0x3fc, noFlags) ∧
    issued (.ume8ii none 5 6 7 1) (holding [(5, 0xff000000), (6, 0x01000000)]) = some (2, 7, 2, noFlags) ∧
    issued (.ume8ii none 5 6 7 1) (holding [(5, 0x0a14f6f6), (6, 0x1414ecf6)]) = some (2, 7, 0x14, noFlags) := by
  decide +kernel
/-- 2.3 rows 4, 6, 7. -/
theorem test_h_dspiabs : issued (.hDspiabs none 0 5 7 1) (holding [(5, 0xfffffff6)]) = some (2, 7, 10, noFlags) ∧
    issued (.hDspiabs none 0 5 7 1) (holding [(5, 0x80000001)]) = some (2, 7, 0x7fffffff, noFlags) ∧
    issued (.hDspiabs none 0 5 7 1) (holding [(5, 0x80000000)]) = some (2, 7, 0x7fffffff, noFlags) := by decide +kernel
theorem test_dspiabs : issued (.dspiabs none 5 5 1) (holding [(5, 0xffffffff)]) = some (2, 5, 1, noFlags) := by
  decide +kernel
/-- 2.7: 2.5 in the four rounding modes, -1.51, 2^31. -/
theorem test_ifixieee_modes : ifixieeeResult .nearestEven 0x40200000 = (2, ⟨false, true, false⟩) ∧
    ifixieeeResult .towardPlusInf 0x40200000 = (3, ⟨false, true, false⟩) ∧
    ifixieeeResult .towardZero 0xbfc147ae = (0xffffffff, ⟨false, true, false⟩) ∧
    ifixieeeResult .towardMinusInf 0xc0200000 = (0xfffffffd, ⟨false, true, false⟩) ∧
    ifixieeeResult .nearestEven 0x3f7fffff = (1, ⟨false, true, false⟩) ∧
    ifixieeeResult .nearestEven 0x4effffff = (0x7fffff80, ⟨false, false, false⟩) ∧
    ifixieeeResult .nearestEven 0xcf000000 = (0x80000000, ⟨false, false, false⟩) ∧
    ifixieeeResult .nearestEven 0xcf000001 = (0x80000000, ⟨false, false, true⟩) := by decide +kernel
/-- 1.5: 2.57 gives 3 with INX, a signalling NaN 0 with INV, the largest denormal 0 with IFZ. -/
theorem test_ifixieee : issued (.ifixieee none 35 102 1) (holding [(35, 0x40247ae1)]) =
      some (3, 102, 3, ⟨false, true, false⟩) ∧
    issued (.ifixieee none 80 122 1) (holding [(80, 0xffbfffff)]) = some (3, 122, 0, ⟨false, false, true⟩) ∧
    issued (.ifixieee none 60 117 4) (holding [(60, 0x007fffff)]) = some (3, 117, 0, ⟨true, false, false⟩) := by
  decide +kernel
/-- 1.2 row 1: the slave, not the master. -/
theorem test_cycles : issued (.cycles none 60 3)
    { State.reset with cccountSlave := 0xabcdefff12345678, cccountMaster := 0x1111111122222222 } =
      some (1, 60, 0x12345678, noFlags) := by decide +kernel
/-- 2.11. -/
theorem test_uimm : issued (.uimm 0xfffc0000 30 1) State.reset = some (1, 30, 0xfffc0000, noFlags) := by decide +kernel
/-- 2.10: the block of prefd(0xc), and the address that wraps. -/
theorem test_prefd : prefdBlock resetConfig 0xabcd 0xc = 0xabc0 ∧ prefdBlock resetConfig 0x10 (-256) = 0xffffff00 := by
  decide +kernel
/-- 2.5 rows 2, 4, 6. -/
theorem test_quadavg : issued (.quadavg none 5 5 7 1) (holding [(5, 0xffffffff)]) = some (2, 7, 0xffffffff, noFlags) ∧
    issued (.quadavg none 5 6 7 1) (holding [(5, 0x00010203), (6, 0x01010101)]) = some (2, 7, 0x01010202, noFlags) ∧
    issued (.quadavg none 5 0 7 1) (holding [(5, 0xfffefdfc)]) = some (2, 7, 0x807f7f7e, noFlags) := by decide +kernel
/-- 2.6 rows 2, 3. -/
theorem test_dspuquadaddui :
    issued (.dspuquadaddui none 5 6 7 1) (holding [(5, 0xff00807f), (6, 0x01ff8080)]) = some (2, 7, 0xff000000, noFlags) ∧
    issued (.dspuquadaddui none 5 6 7 1) (holding [(5, 0x10203040), (6, 0x01fe7f80)]) =
      some (2, 7, 0x111eaf00, noFlags) := by decide +kernel

/-- The memory after an operation. -/
def memAfter (i : Instr) (s : State) : Option Memory := (next (exec i s)).map State.mem

/-- 2.8 rows 1 and 2: the stored bytes in both byte orders; row 7: the last halfword of memory. -/
theorem test_st16 : memAfter (.st16 none 10 80 4) (holding [(10, 0xd00), (80, 0x44332211)]) =
      some [(0xd00, 0x22), (0xd01, 0x11)] ∧
    memAfter (.st16 none 10 80 4) { holding [(10, 0xd00), (80, 0x44332211)] with pcsw := { resetPcsw with bytesex := .little } }
      = some [(0xd00, 0x11), (0xd01, 0x22)] ∧
    memAfter (.st16 none 10 80 4) (holding [(10, 0xfffffffe), (80, 0xbeef)]) =
      some [(0xfffffffe, 0xbe), (0xffffffff, 0xef)] := by decide +kernel
/-- 2.8 row 3 over older bytes: the neighbours stay and the form is canonical. -/
theorem test_h_st16d : memAfter (.hSt16d none 10 80 0 5)
    { holding [(10, 0xd02), (80, 0xaabbccdd)] with mem := [(0xd01, 0xee), (0xd03, 0xee), (0xd04, 0xee)] } =
      some [(0xd01, 0xee), (0xd02, 0xcc), (0xd03, 0xdd), (0xd04, 0xee)] := by decide +kernel
/-- 2.8 rows 5 and 6: MSE and the request, and nothing at all under a false guard. -/
theorem test_misaligned_store :
    ((next (exec (.st16 none 10 80 4) { holding [(10, 0xd01)] with pcsw := { resetPcsw with trpmse := true } })).map
      fun t => (t.pcsw.mse, t.excPending)) = some (true, true) ∧
    ((next (exec (.st16 none 10 80 4) (holding [(10, 0xd01)]))).map fun t => (t.pcsw.mse, t.excPending)) =
      some (true, false) ∧
    ((next (exec (.st16 (some 0) 10 80 4) (holding [(10, 0xd01)]))).map fun t => (t.pcsw.mse, t.mem)) =
      some (false, []) := by decide +kernel
/-- R249: in the MMIO aperture too a misaligned store is looked at as misaligned first; an aligned one faults. -/
theorem test_misaligned_before_mmio :
    ((next (exec (.st16 none 10 80 4) { holding [(10, 0xd01)] with cfg := { resetConfig with mmio := [⟨0xd00, 4⟩] } })).map
      fun t => t.pcsw.mse) = some true ∧
    (next (exec (.st16 none 10 80 4) { holding [(10, 0xd02)] with cfg := { resetConfig with mmio := [⟨0xd00, 4⟩] } })).isNone =
      true := by decide +kernel
theorem test_reset_memory_wf : State.reset.mem.wf := by decide

/-! ### One instruction each (95_test_vectors.md part 3) -/

/-- The first breach of an instruction at the state after reset. -/
def breachAfter (p : List (List Instr)) : Option (Option Breach) :=
  (next (step (State.running State.reset p))).map State.breach

/-- P6: an instruction that reads registers nothing has written, two writes of one register; P6 row 7: no breach. -/
theorem test_breaches : breachAfter [[.carry none 5 6 7 1]] = some (some .unwrittenRegister) ∧
    breachAfter [[.carry (some 5) 0 0 7 1]] = some (some .unwrittenRegister) ∧
    breachAfter [[.uimm 1 5 1, .uimm 2 5 2]] = some (some .writeConflict) ∧
    breachAfter [[.st16 none 0 0 4]] = some none ∧
    breachAfter [[.st16 none 0 0 4, .st16 none 0 0 5]] = some (some .storeConflict) ∧
    breachAfter [[.st16 none 1 0 4]] = some (some .misalignedStore) := by decide +kernel
/-- The stop that R352 and R362 rule for a program's first instruction at the state after reset, in an aperture of one
byte at 0. -/
def ruledStop (p : List (List Instr)) : Option (Fault ⊕ Refusal) :=
  match ruledStep { State.running State.reset p with cfg := { resetConfig with mmio := [⟨0, 1⟩] } } with
  | .next _ => none
  | .fault f => some (.inl f)
  | .refused r => some (.inr r)

/-- P6 and R362: an unwritten register before a conflict and before the aperture, the stores in slot order. -/
theorem test_ruled_stops : ruledStop [[.carry none 5 6 7 1]] = some (.inl .unwrittenRegister) ∧
    ruledStop [[.carry none 5 0 7 1, .uimm 1 7 2, .st16 none 0 0 4]] = some (.inl .unwrittenRegister) ∧
    ruledStop [[.uimm 1 5 1, .uimm 2 5 2, .st16 none 0 0 4]] = some (.inr .writeConflict) ∧
    ruledStop [[.st16 none 0 0 4, .st16 none 0 0 5]] = some (.inr .storeConflict) ∧
    ruledStop [[.st16 none 0 0 4]] = some (.inl .mmioNon32) ∧ ruledStop [[.st16 none 1 0 4]] = some (.inl .misalignedStore) ∧
    ruledStop [[.uimm 1 5 1]] = none := by decide +kernel
/-- P6: refusals by name. -/
theorem test_refusals : refusal (State.running State.reset [[.cycles none 5 1]]) = some .illFormed ∧
    refusal (State.running State.reset [[.hDspiabs none 5 30 60 1]]) = some .hDspiabsSrc1 ∧
    refusal (State.running State.reset [[.hSt16d none 10 80 4 4]]) = some .hSt16dDisplacement ∧
    refusal (State.running State.reset [[.hicycles 3]]) = some (.unspecifiedOperation .hicycles) ∧
    refusal { State.reset with program := [[⟨.code 44, none, none, none, none, none, 1⟩]] } = some .unknownOperation := by
  decide +kernel
/-- P4, the last step: the result of `ifixieee` and its flag arrive together, and not one instruction earlier. -/
theorem test_ifixieee_arrives :
    ((next (step { State.running State.reset [[], [], [], [], []] with
      ip := 4, pending := [⟨4, 1, 102, 3, ⟨false, true, false⟩⟩] })).map fun t => (t.fileReg 102, t.pcsw.inx)) =
        some (3, true) ∧
    ((next (step { State.running State.reset [[], [], [], [], []] with
      ip := 3, pending := [⟨4, 1, 102, 3, ⟨false, true, false⟩⟩] })).map fun t => (t.fileReg 102, t.pcsw.inx)) =
        some (0, false) := by decide +kernel
/-- Inside the window of `ume8ii` its destination is marked. -/
theorem test_window : State.inWindow { State.reset with ip := 1, pending := [⟨2, 0, 5, 1, noFlags⟩] } 5 = true ∧
    State.inWindow { State.reset with ip := 1, pending := [⟨2, 1, 5, 1, noFlags⟩] } 5 = false := by decide +kernel
/-- The word placed for the fetch runs: `uimm(0x100) → r20`. -/
theorem test_with_fetch_word : ((next (step (State.reset.withFetchWord 160
    0x00000000000001000014000000000000011800bf))).map fun t => t.pending) = some [⟨1, 0, 20, 0x100, noFlags⟩] := by
  decide +kernel

/-! ### Units (60_exceptions.md part 3) -/

/-- R316: 100 input pixels to 50 output pixels is an increment of 2; R318: 0x8000 is -1/2. -/
theorem test_icp_numbers : icpIncrement 100 50 = 0x20000 ∧ incrementInteger (icpIncrement 3 2) = 1 ∧
    incrementFraction (icpIncrement 3 2) = 0x8000 ∧ startFractionUnits 0xc000 = -0x4000 := by decide +kernel
/-- R317, R322: twice the scaling factor for RGB output in the UVY sequence only. -/
theorem test_icp_chroma : (icpControl 0x0002).chromaFactor .yuv422 = 2 ∧ (icpControl 0x4002).chromaFactor .yuv420 = 1 ∧
    (icpControl 0x0001).chromaFactor .yuv422 = 1 ∧ (icpControl 0x0002).chromaFactor .yuv411 = 4 ∧
    (icpControl 0x0002).chromaIncrement .yuv422 100 100 = 0x8000 := by decide +kernel
/-- R320: the overlay window, its first and last pixel and the pixels next to them. -/
theorem test_icp_overlay : ([(4, 9), (4, 10), (4, 11), (6, 12), (6, 13), (7, 12)].map fun p =>
    IcpParameters.inOverlay { resetUnits.icp.parameters with
      overlayStartPixel := 10, overlayEndPixel := 12, overlayStartLine := 4, overlayEndLine := 6 } p.1 p.2) =
      [false, true, true, true, false, false] := by decide +kernel

/-- A 525-line frame with the overlaps that R291 calls typical; the second field begins at line 264. -/
def frame525 (line : Nat) : VideoOut := { resetUnits.evo with
  frameLength := 525, field2Start := 264, f1VideoLine := 20, f2VideoLine := 283, f1Olap := 2, f2Olap := 3, frameLine := line }

/-- R291: the SAV and EAV codes change 3 lines after line 1 and 2 lines after line 264. -/
theorem test_evo_codes : ([3, 4, 265, 266].map fun k => (frame525 k).codeField) = [.two, .one, .one, .two] := by decide +kernel
/-- R290, R291: active lines; and with the overlap -2 of a 625-line frame blanking starts at line 624. -/
theorem test_evo_active : ([19, 20, 263, 264, 282, 283, 525].map fun k => (frame525 k).lineActive) =
      [false, true, true, false, false, true, true] ∧
    ([623, 624].map fun k => { frame525 k with frameLength := 625, f2Olap := -2 }.lineActive) = [true, false] ∧
    (frame525 525).nextLine.frameLine = 1 := by decide +kernel

/-- The first active line of field 1, at its first pixel, in a line of 8 pixels of which the last 4 are active. -/
def enteringField (ytr : Bool) : VideoOut := { frame525 20 with
  voEnable := true, framing := true, frameWidth := 8, videoPixelStart := 4, framePixel := 1
  nextPointers := [0x40], flags := { noEvoBits with ytr := ytr } }

/-- R284, R292: not yet at the blanking pixels; at pixel 4 the field starts, with YTR_ACK and without it. -/
theorem test_evo_field_start :
    ((enteringField true).pixelTime []).flags.urun = false ∧
    ({ enteringField true with framePixel := 4 }.pixelTime []).flags.urun = true ∧
    (let u := { enteringField false with framePixel := 4 }.pixelTime []
     (u.flags.urun, u.fieldPointers, u.areaField, u.imagePosition, u.framePixel)) = (false, [0x40], some .one, 1, 5) ∧
    (let u := { frame525 0 with framePreset := 30, areaField := some .one }.frameEdge
     (u.frameLine, u.areaField)) = (30, none) := by decide +kernel

/-- Data streaming, enabled with a one-byte buffer 1 whose successor is acknowledged or not. -/
def streaming (flags : EvoBits) : VideoOut := { resetUnits.evo with
  mode := .dataStreaming, evoEnable := true, syncStreaming := true, voEnable := true, base1 := 0x40, base2 := 0x80, size := 1
  flags := flags }.enable

/-- R281: the pulse on VO_IO1 and data-valid one clock before the first byte; R331: URUN, and then no valid data. -/
theorem test_evo_stream :
    (let u := (streaming noEvoBits).clock []; (u.io1Pulse, u.dataValid, u.data)) = (true, true, []) ∧
    (let u := ((streaming noEvoBits).clock []).clock [(0x40, 7)]
     (u.io1Pulse, u.dataValid, u.data, u.flags.urun, u.sending.pointer)) = (false, true, [7], false, 0x80) ∧
    (let u := ((streaming { noEvoBits with bfr2Empty := true }).clock []).clock [(0x40, 7)]
     (u.dataValid, u.flags.urun, (u.clock []).dataValid)) = (true, true, false) := by decide +kernel
/-- R326, R328: a read asserts IORD, a write IOWR; neither has parity. -/
theorem test_xio : ((resetUnits.xio.setActive true).transfer .read 5).last.map
      (fun r => (r.iord, r.iowr, r.parityChecked)) = some (true, false, false) ∧
    ((resetUnits.xio.setActive true).transfer .write 5).last.map
      (fun r => (r.iord, r.iowr, r.parityGenerated)) = some (false, true, false) ∧
    (resetUnits.xio.transfer .write 5).words = 0 := by decide +kernel
/-- R308: in diagnostic mode the sample comes from the pins of Audio Out. -/
theorem test_ai_diagnostic : { resetUnits.ai with diagMode := true }.converterInput 1 2 = 2 ∧
    resetUnits.ai.converterInput 1 2 = 1 := by decide

/-! ### Witnesses: concrete states and operands that meet the hypotheses of the obligations -/

/-- Register 5 is a true guard, register 6 a false one; registers 7 and 8 hold operands. -/
def guarded : State := holding [(5, 0xffffffff), (6, 2), (7, 0x12345678), (8, 0xaabbccdd)]

/-- Both guard clauses of a statement about an operation's result. -/
abbrev guardsMet : Prop := guarded.guardHolds (some 5) = true ∧ guarded.guardHolds (some 6) = false

theorem witness_PackedWordsDecodeToTheirOperation : (2 ^ 16 : Nat) ≤ 2 ^ 16 ∧
    (Instr.carry (some 65535) 65535 0 65535 5).wf resetConfig (2 ^ 16) = true ∧
    (Instr.prefd none 0 (-256) 5).wf resetConfig 128 = true ∧ (Instr.uimm 0xffffffff 2 1).wf resetConfig 128 = true ∧
    (Instr.zex8 5).namedOnly.isSome = true ∧ (Instr.zex8 5).slot ≤ 5 := by decide +kernel
theorem witness_RecordsHaveOneMeaning :
    decode ⟨.code 30, some 60, some 10, some 80, none, some 0, 4⟩ = .ok (.hSt16d (some 60) 10 80 0 4) ∧
    (Instr.hSt16d (some 60) 10 80 0 4).namedOnly = none := by decide +kernel
theorem witness_OperationCodeSelectsTheOperation :
    decode ⟨.code 209, none, some 255, none, none, some 13, 9⟩ = .ok (.prefd none 255 13 9) := by decide +kernel
theorem witness_StepRunsTheDecodedOperation :
    (State.running guarded [[.carry (some 5) 7 8 9 1]]).onTurn ∧
    (State.running guarded [[.carry (some 5) 7 8 9 1]]).fetch = some [encode (.carry (some 5) 7 8 9 1)] ∧
    decode (encode (.carry (some 5) 7 8 9 1)) = .ok (.carry (some 5) 7 8 9 1) ∧
    (Instr.carry (some 5) 7 8 9 1).wf guarded.cfg guarded.nRegs = true := by decide +kernel
theorem witness_StepRunsTheWordPlaced : State.reset.nRegs ≤ 2 ^ 16 ∧
    (Instr.uimm 7 127 5).wf State.reset.cfg State.reset.nRegs = true := by decide +kernel

/-- Five operations in one instruction. -/
def fiveOperations : List Instr :=
  [.uimm 1 10 1, .mergemsb (some 5) 7 8 11 2, .cycles none 12 3, .ifixieee none 7 13 4, .prefd (some 6) 7 (-4) 5]

theorem witness_WellFormedInstructionsRun :
    (State.running guarded [fiveOperations]).onTurn ∧
    (State.running guarded [fiveOperations]).fetch = some (fiveOperations.map encode) ∧
    operationsOf (fiveOperations.map encode) = fiveOperations ∧
    instructionWf guarded.cfg guarded.nRegs fiveOperations = true ∧
    (next (step (State.running guarded [fiveOperations]))).isSome = true ∧
    (State.running guarded [fiveOperations]).commit.firstBreach fiveOperations = none ∧
    faulted { State.running guarded [[.st16 none 0 0 4]] with cfg := { resetConfig with mmio := [⟨1, 1⟩] } } = true := by decide +kernel
theorem witness_EmptyInstructionDoesNothing : (State.running guarded [[]]).onTurn ∧
    (State.running guarded [[]]).fetch = some [] := by decide +kernel
theorem witness_UnknownOperationCodesAreRefused :
    (⟨.code 44, none, none, none, none, none, 1⟩ : OpRecord).op = .code 44 ∧
    (44 : Nat) ∉ [30, 45, 58, 64, 65, 121, 154, 191, 209] ∧
    refusal { State.reset with program := [[encode (.umin 1), ⟨.code 44, none, none, none, none, none, 1⟩]] } =
      some .unknownOperation := by decide +kernel
/-- One instruction for each clause: a guarded `uimm`, a destination `r0`, six operations, one slot twice. -/
theorem witness_IllFormedInstructionsAreRefused :
    decode ⟨.code 191, some 5, none, none, some 10, some 1, 1⟩ = .error .illFormed ∧
    (Instr.uimm 1 0 1).formOk resetConfig 128 = false ∧
    refusal { State.reset with program := [[⟨.code 191, some 5, none, none, some 10, some 1, 1⟩]] } = some .illFormed ∧
    refusal (State.running State.reset [[.uimm 1 0 1]]) = some .illFormed ∧
    refusal (State.running State.reset [.uimm 1 15 5 :: fiveOperations]) = some .illFormed ∧
    refusal (State.running State.reset [[.uimm 1 5 1, .uimm 2 6 1]]) = some .illFormed := by decide +kernel
/-- One case for each clause; two operations with a refused operand, of which the one in the lower slot decides. -/
theorem witness_RefusedOperandValues : (1 : Nat) ≠ 0 ∧ (4 : Int) ≠ 0 ∧
    (State.running guarded [[.hSt16d none 7 8 4 4, .hDspiabs none 7 8 9 3]]).onTurn ∧
    decode (encode (.hDspiabs none 7 8 9 3)) = .ok (.hDspiabs none 7 8 9 3) ∧
    decode (encode (.hSt16d none 7 8 4 4)) = .ok (.hSt16d none 7 8 4 4) ∧
    operationsOf [encode (.hSt16d none 7 8 4 4), encode (.hDspiabs none 7 8 9 3)] =
      [.hDspiabs none 7 8 9 3, .hSt16d none 7 8 4 4] ∧
    slotsDistinct [.hDspiabs none 7 8 9 3, .hSt16d none 7 8 4 4] = true ∧
    (Instr.hDspiabs none 7 8 9 3).formOk guarded.cfg guarded.nRegs = true ∧
    (Instr.hSt16d none 7 8 4 4).formOk guarded.cfg guarded.nRegs = true ∧
    (Instr.hDspiabs none 7 8 9 3).firstArgumentOk = false ∧ (Instr.hSt16d none 7 8 4 4).displacementOk = false ∧
    refusal (State.running guarded [[.hSt16d none 7 8 4 4, .hDspiabs none 7 8 9 3]]) = some .hDspiabsSrc1 ∧
    refusal (State.running guarded [[.hSt16d none 7 8 4 4, .hDspiabs none 0 8 9 3]]) = some .hSt16dDisplacement := by
  decide +kernel
/-- The register values that a unit model should refuse (U8, U9, U11, U15), at the ends of their ranges. -/
theorem witness_RefusedOperandValues_units :
    ({ mode := .messagePassing, format := .yuv420, reset := false, voEnable := true, ltlEnd := false,
       enables := { noEvoBits with ytr := true }, acks := noEvoBits } : VoCtlWrite).enables.ytr = true ∧
    { resetUnits.vi with mode := .messagePassing }.softReset = false ∧ (1 : Nat) % 2 = 1 ∧
    (0x00c0 : BitVec 16).extractLsb 7 6 = 3 ∧ 8 ≤ ((0x0008 : BitVec 16).extractLsb 3 0).toNat := by decide +kernel
theorem witness_StepRefusesNamedOnlyOperations :
    (State.running guarded [[.uimm 1 10 1, .zex8 1]]).fetch = some [encode (.uimm 1 10 1), encode (.zex8 1)] ∧
    decode (encode (.uimm 1 10 1)) ≠ .error .unknownOperation ∧ decode (encode (.zex8 1)) = .ok (.zex8 1) ∧
    (Instr.zex8 1).namedOnly.isSome = true := by decide +kernel

/-- Two results for register 10, one of them with a flag, and one for register 127 at the end of a run. -/
def finished : State := { State.reset with
  ip := 0, pending := [⟨3, 0, 10, 9, ⟨false, true, false⟩⟩, ⟨1, 0, 10, 8, noFlags⟩, ⟨2, 0, 127, 7, noFlags⟩] }

theorem witness_EndOfRunDrains : finished.onTurn ∧ finished.fetch = none ∧
    (⟨3, 0, 10, 9, ⟨false, true, false⟩⟩ : InFlight) ∈ finished.pending ∧ 127 < finished.nRegs ∧
    (next (step finished)).map (fun t => (t.fileReg 10, t.fileReg 127, t.fileReg 11, t.pcsw.inx)) = some (9, 7, 0, true) := by
  decide +kernel

theorem witness_CarryResult : guardsMet ∧ (next (exec (.carry (some 5) 7 8 127 5) guarded)).isSome = true := by
  decide +kernel
theorem witness_MergemsbResult : guardsMet ∧ (next (exec (.mergemsb (some 5) 7 8 127 5) guarded)).isSome = true := by
  decide +kernel
theorem witness_Ume8iiResult : guardsMet ∧ (next (exec (.ume8ii (some 5) 7 8 127 3) guarded)).isSome = true := by
  decide +kernel
theorem witness_DspiabsResult : guardsMet ∧ (next (exec (.hDspiabs (some 5) 0 8 127 3) guarded)).isSome = true ∧
    (next (exec (.dspiabs (some 5) 8 127 3) guarded)).isSome = true := by decide +kernel
theorem witness_CyclesResult : guardsMet ∧ (next (exec (.cycles (some 5) 127 3) guarded)).isSome = true := by
  decide +kernel
theorem witness_UimmResult : (0xffffffff : Nat) < 2 ^ 32 ∧
    issued (.uimm 0xffffffff 127 5) guarded = some (1, 127, 0xffffffff, noFlags) := by decide +kernel
theorem witness_QuadavgResult : guardsMet ∧ (next (exec (.quadavg (some 5) 7 8 127 3) guarded)).isSome = true := by
  decide +kernel
theorem witness_DspuquadadduiResult : guardsMet ∧
    (next (exec (.dspuquadaddui (some 5) 7 8 127 3) guarded)).isSome = true := by decide +kernel
/-- Program P5: the highest lane. -/
theorem witness_MpegKernelMatchesFigure44 : 3 < 4 ∧
    figure44Pixel (byteOf 0x1020ff00 3) (byteOf 0x1122ff01 3) (byteOf 0x05d001ff 3) = 0x16 ∧
    figure44Pixel (byteOf 0x1020ff00 2) (byteOf 0x1122ff01 2) (byteOf 0x05d001ff 2) = 0 := by decide +kernel
theorem witness_IfixieeeIssuesResultAndFlags : guardsMet ∧
    (next (exec (.ifixieee (some 5) 7 127 4) guarded)).isSome = true := by decide +kernel
/-- The ends of each class: smallest and largest denormal, the zeros, the NaNs next to an infinity. -/
theorem witness_IfixieeeSpecialOperands :
    (fpExp 0x00000001 = 0 ∧ fpFrac 0x00000001 ≠ 0) ∧ (fpExp 0x807fffff = 0 ∧ fpFrac 0x807fffff ≠ 0) ∧
    (fpExp 0x80000000 = 0 ∧ fpFrac 0x80000000 = 0) ∧ (fpExp 0x7f800001 = 255 ∧ fpFrac 0x7f800001 ≠ 0) ∧
    (fpExp 0xffffffff = 255 ∧ fpFrac 0xffffffff ≠ 0) := by decide +kernel
/-- Normal operands for each clause: the first above the range, the last in it at both ends, the first below it. -/
theorem witness_IfixieeeRoundsTheExactValue : isNormal 0x4f000000 ∧ isNormal 0x4effffff ∧ isNormal 0xcf000000 ∧
    isNormal 0xcf000001 ∧ isNormal 0x00800000 ∧ isNormal 0x7f7fffff ∧
    ifixieeeResult .towardZero 0x4f000000 = (0x7fffffff, ⟨false, false, true⟩) ∧
    ifixieeeResult .towardZero 0xcf000001 = (0x80000000, ⟨false, false, true⟩) ∧
    ifixieeeResult .towardPlusInf 0x00800000 = (1, ⟨false, true, false⟩) := by decide +kernel
theorem witness_IfixieeeLargeOperandsAreExact : 150 ≤ fpExp 0x4b000001 ∧ 150 ≤ fpExp 0xffffffff := by decide +kernel
theorem witness_FalseGuardDoesNothing : (Instr.st16 (some 6) 7 8 4).guard = some 6 ∧
    (guarded.readReg 6).getLsbD 0 = false ∧ (Instr.st16 (some 6) 7 8 4).firstArgumentOk = true ∧
    (Instr.hDspiabs (some 6) 0 8 9 1).firstArgumentOk = true ∧ (Instr.hSt16d (some 6) 7 8 0 4).displacementOk = true := by
  decide +kernel
theorem witness_UncontestedResultIsIssued : ∀ p ∈ finished.pending, p.dest ≠ 126 := by decide +kernel
theorem witness_ContestedResultsBecomeFree : ∃ p ∈ finished.pending, p.dest = 10 := by decide +kernel

/-- A result due at the instruction at the program position, and one due later. -/
def arriving : State := { State.running guarded [[], [.uimm 3 20 1], [.carry none 20 7 21 1]] with
  ip := 1, pending := [⟨1, 0, 127, 9, ⟨true, true, true⟩⟩, ⟨2, 0, 11, 8, noFlags⟩] }

theorem witness_ResultsReachTheirRegisterWhenDue : arriving.onTurn ∧
    arriving.fetch = some [encode (.uimm 3 20 1)] ∧ (next (step arriving)).isSome = true ∧
    (⟨1, 0, 127, 9, ⟨true, true, true⟩⟩ : InFlight) ∈ arriving.pending ∧ 127 < arriving.nRegs ∧
    (∀ q ∈ arriving.pending, q.dest = 127 → q.value = 9) := by decide +kernel
theorem witness_RegistersWithoutResultDueAreUnchanged :
    ∀ p ∈ arriving.pending, p.due = arriving.ip → p.dest ≠ 11 := by decide +kernel
theorem witness_UimmIsVisibleToTheNextInstruction : (Instr.uimm 3 20 1).wf arriving.cfg arriving.nRegs = true ∧
    (∀ p ∈ arriving.pending, p.dest = 20 → p.due = arriving.ip) ∧
    (next (step arriving)).bind State.fetch = some [encode (.carry none 20 7 21 1)] ∧
    ((next (step arriving)).bind fun t => next (step t)).map (State.fileReg · 20) = some 3 := by decide +kernel
theorem witness_CheckedReadsAreDefined : guarded.checkReads (.carry (some 5) 7 1 9 1) = none ∧
    guarded.guardHolds (some 5) = true ∧ 7 ∈ guarded.written ∧ hardwired guarded.cfg 1 = some 1 ∧
    guarded.checkReads (.carry (some 6) 100 101 9 1) = none ∧ guarded.guardHolds (some 6) = false ∧
    (Instr.carry (some 6) 100 101 9 1).guard = some 6 := by decide +kernel
theorem witness_HardwiredRegisters : guarded.cfg.r1IsOne = true ∧
    ({ guarded with cfg := { resetConfig with r1IsOne := false } }.inWindow 1 = false) ∧
    (State.running guarded [[.uimm 5 0 1]]).onTurn ∧ (Instr.uimm 5 0 1).dest = some 0 ∧
    (State.running guarded [[.carry (some 6) 7 8 1 1]]).fetch = some [encode (.carry (some 6) 7 8 1 1)] ∧
    (Instr.carry (some 6) 7 8 1 1).dest = some 1 ∧
    refusal (State.running guarded [[.carry (some 6) 7 8 1 1]]) = some .illFormed ∧
    refusal (State.running guarded [[.uimm 1 10 1, .carry (some 6) 7 8 1 2]]) = some .illFormed := by decide +kernel

/-- The address of a store in register 10. -/
def storing (a : Word) (o : ByteOrder) : State :=
  { holding [(10, a), (80, 0x44332211)] with pcsw := { resetPcsw with bytesex := o, trpmse := true } }

theorem witness_AlignedStoreWritesTwoBytes : (storing 0xfffffffe .big).guardHolds none = true ∧
    ((storing 0xfffffffe .big).readReg 10).toNat % 2 = 0 ∧ ((storing 0 .little).readReg 10).toNat % 2 = 0 ∧
    inMmio resetConfig 0xfffffffe = false ∧ inMmio resetConfig (0xfffffffe + 1) = false ∧
    (storing 0 .big).guardHolds (some 0) = false ∧ (storing 0 .big).pcsw.bytesex = .big ∧
    ([0xd02, 0xcfe] : List Word).all (fun x => !halvesOverlap 0xd00 x) = true ∧
    ([0xd02, 0xd01] : List Word).any (halvesOverlap 0xd00) = true ∧
    (next (exec (.st16 none 10 80 5) { storing 0xd00 .big with stored := [0xd02] })).isSome = true ∧
    (next (exec (.hSt16d none 10 80 0 5) { storing 0xd00 .big with stored := [0xd02] })).isSome = true ∧
    (storing 0 .little).pcsw.bytesex = .little := by decide +kernel
theorem witness_MisalignedStoreRaisesTheException : ((storing 0xffffffff .big).readReg 10).toNat % 2 = 1 ∧
    (next (exec (.st16 none 10 80 4) (storing 0xffffffff .big))).isSome = true ∧
    (next (exec (.hSt16d none 10 80 0 4)
      { storing 0xd01 .big with cfg := { resetConfig with mmio := [⟨0xd00, 4⟩] } })).isSome = true := by decide +kernel
/-- The aperture starts at the second byte of the halfword, and ends after its first byte. -/
theorem witness_StoreToMmioFaults : ((storing 0xd00 .big).readReg 10).toNat % 2 = 0 ∧
    inMmio { resetConfig with mmio := [⟨0xd01, 4⟩] } (0xd00 + 1) = true ∧
    inMmio { resetConfig with mmio := [⟨0xd01, 4⟩] } 0xd00 = false ∧
    inMmio { resetConfig with mmio := [⟨0xcfd, 4⟩] } 0xd00 = true ∧
    inMmio { resetConfig with mmio := [⟨0xcfd, 4⟩] } (0xd00 + 1) = false := by decide +kernel
theorem witness_PrefdBlockHoldsTheAddress : resetConfig.cacheBlockSize = 2 ^ 6 ∧ 6 < 32 := by decide
theorem witness_OnlyStoresChangeMemory : arriving.onTurn ∧ (next (step arriving)).isSome = true ∧
    decode (encode (.uimm 3 20 1)) = .ok (.uimm 3 20 1) ∧ (Instr.uimm 3 20 1).storeAddressReg = none := by
  decide +kernel
theorem witness_OnlyStoresRaiseTheException :
    (next (step (State.running (storing 0xd01 .big) [[.st16 none 10 80 4]]))).map
      (fun t => (t.pcsw.mse, t.excPending)) = some (true, true) ∧
    (storing 0xd01 .big).pcsw.mse = false ∧ (storing 0xd01 .big).excPending = false := by decide +kernel
/-- A sound state that is not the reset state, and a step of it; the next three statements hold of the same step. -/
theorem witness_EveryStepKeepsTheInvariant : arriving.cfg.wf = true ∧ arriving.mem.wf ∧ 126 ≤ arriving.nRegs ∧
    arriving.stored = [] ∧ (∀ p ∈ arriving.pending, p.sound arriving.ip arriving.nRegs) ∧
    (∀ r ∈ arriving.written, r < arriving.nRegs) ∧ (next (step arriving)).isSome = true := by decide +kernel
theorem witness_SlaveCccountNeverChanges : (next (step arriving)).map State.cccountSlave = some arriving.cccountSlave := by
  decide +kernel
theorem witness_PcswFlagsAreSticky :
    (next (step { arriving with pcsw := ⟨true, .little, true, true, .towardZero, true, true, true, true, true⟩ })).isSome =
      true := by decide +kernel
theorem witness_ConfigurationAndRequestsStay :
    (next (step { arriving with excPending := true, breach := some .latencyHazard })).isSome = true ∧
    arriving.commit.firstBreach [.uimm 3 20 1] = none ∧
    (next (step { arriving with program := [[], [encode (.carry none 100 7 21 1)]] })).map State.breach =
      some (some .unwrittenRegister) ∧
    (next (step finished)).isSome = true ∧ finished.fetch = none := by decide +kernel
theorem witness_MasterCccountCountsCycles : arriving.onTurn ∧ arriving.pcsw.cs = false ∧
    { arriving.pcsw with cs := true }.cs = true ∧ (next (step arriving)).isSome = true := by decide +kernel

/-- Units in use: both capture units on, Video In one sample before the end of buffer 1. -/
def capturing : State := { guarded with
  units := { resetUnits with
    vi := { resetUnits.vi with base1 := 0x1000, base2 := 0x2000, size := 64, captureEnable := true,
                               capture := ⟨.one, 0x1000, 64, 0x103f, 63, true⟩ }
    ai := { resetUnits.ai with base1 := 0x3000, base2 := 0x4000, size := 64, capEnable := true, sleepless := true,
                               enables := ⟨true, true, true, true⟩, inputRegister := some 7,
                               internalBuffer := List.replicate 64 0,
                               capture := ⟨.one, 0x3000, 64, 0x3000, 0, true⟩ } } }

/-- Output units in use: a stream about to send its first byte, an ICP at the third pixel of a line in the UVYY sequence, an
XIO bus with a transfer on it. -/
def putting : State := { capturing with
  units := { capturing.units with
    evo := (streaming noEvoBits).clock []
    icp := { resetUnits.icp with
      parameters := { resetUnits.icp.parameters with y := ⟨0x20000, 0xc000⟩, u := ⟨0x8000, 1⟩, control := 0x4002, alpha := 0x0707 }
      alpha1 := 7, alpha0 := 7, pixel := 3, yCounter := 0x5c000, uCounter := 0x10001 }
    xio := ⟨true, 1, some ⟨.write, 7, 0x07070707, false, true, true, true, false, false⟩⟩ } }

theorem witness_EveryStepKeepsUnitsAligned : capturing.unitsAligned ∧
    (next (step { capturing with agenda := [.viWriteSize 0xffffffff] })).map (·.units.vi.size) = some 0xffffffc0 ∧
    putting.units.evo.sound ∧ putting.units.icp.sound ∧
    (∃ k < 4, byteOf 0x07070707 k = 7) ∧ putting.units.xio.active = true ∧
    (next (step { putting with agenda := [.icpPixel] })).map (fun t => (t.units.icp.yCounter, t.units.icp.uCounter)) =
      some (0x7c000, 0x10001) ∧
    (next (step { putting with agenda := [.evoClock] })).map (fun t => t.units.evo.flags.bfr1Empty) = some true ∧
    (next (step { putting with agenda := [.xioTransfer .read 3] })).map (fun t => t.units.xio.words) = some 2 := by
  decide +kernel
theorem witness_UnitTurnsLeaveTheDspcpu :
    (next (step { capturing with agenda := [.viSample 0x355, .enterGlobalPowerDown] })).map
      (fun t => (t.agenda, t.mem, t.units.vi.flags.buf1Full, t.units.vi.capture.active)) =
        some ([.enterGlobalPowerDown], [(0x103f, 0x55)], true, .two) := by decide +kernel
/-- The last sample of a buffer, with the other buffer acknowledged and not. -/
theorem witness_VideoInExchangesBuffers : capturing.units.vi.capturesRaw = true ∧
    capturing.units.vi.capture.size.toNat ≤ capturing.units.vi.capture.captured + 1 ∧
    capturing.units.vi.flags.full capturing.units.vi.capture.active.other = false ∧
    ({ capturing.units.vi with flags := ⟨false, true, false, false⟩ }.flags.full .two = true) := by decide +kernel
theorem witness_VideoInRegistersAreShadowed :
    (next (unitEvent (.viWriteBase1 0x5000) capturing)).isSome = true ∧
    (next (unitEvent (.viWriteBase2 0x5000) capturing)).isSome = true ∧
    (next (unitEvent (.viWriteSize 128) capturing)).isSome = true := by decide +kernel
theorem witness_OverrunIsClearedByItsAcknowledgeAlone :
    (next (unitEvent (.aiAck ⟨true, true, false, false⟩) capturing)).isSome = true ∧
    (next (unitEvent (.viAck ⟨false, false, true, false⟩) capturing)).isSome = true := by decide +kernel
theorem witness_AudioInHighwayError : capturing.units.ai.samples = true ∧ capturing.units.ai.flags.hbe = false ∧
    (capturing.units.ai.sample 5).flags.hbe = true ∧
    ({ capturing.units.ai with inputRegister := none }.sample 5).flags.hbe = false := by decide +kernel
/-- A request line that stays asserted under one of two acknowledges, and falls under both. -/
theorem witness_RequestLineIsLevelSensitive :
    ({ resetUnits.ai with flags := ⟨true, true, false, false⟩, enables := ⟨true, true, true, true⟩ }.acknowledge
      ⟨true, false, true, true⟩).requests = true ∧
    ({ resetUnits.ai with flags := ⟨true, true, false, false⟩, enables := ⟨true, true, true, true⟩ }.acknowledge
      ⟨true, true, false, false⟩).requests = false ∧
    (match resetUnits.evo.writeCtl ⟨.videoRefresh, .yuv420, false, true, false, noEvoBits, noEvoBits⟩ with
      | .ok _ => true | .error _ => false) = true := by decide +kernel

/-- The last byte of a message. -/
def lastByte : VideoOut := { resetUnits.evo with
  mode := .messagePassing, voEnable := true, sending := ⟨.one, 0x43, 1, .sending⟩ }

theorem witness_VideoOutMessageEnds : lastByte.reset = false ∧ lastByte.mode ≠ .videoRefresh ∧
    ((lastByte.clock [(0x43, 9)]).endSent, (lastByte.clock [(0x43, 9)]).data) = (true, [9]) ∧
    { lastByte with sending := ⟨.one, 0x42, 2, .sending⟩ }.sending.left = 2 ∧
    ((streaming noEvoBits).clock []).sending.phase = .sending ∧ ((streaming noEvoBits).clock []).sending.left = 1 ∧
    (({ noEvoBits with bfr2Empty := true } : EvoBits).empty .two = true ∧ noEvoBits.empty .two = false) ∧
    (⟨.videoRefresh, .yuv420, true, true, false, noEvoBits, noEvoBits⟩ : VoCtlWrite).voEnable = true := by decide +kernel
/-- Asleep with nothing to come; the sample that raises HBE of a unit that stayed awake; and a highway error of the Enhanced
Video Out, which stays awake. -/
theorem witness_AudioInWakesTheDspcpu : { guarded with globalPowerDown := true }.agenda = [] ∧
    (next (step { capturing with globalPowerDown := true, agenda := [.aiSample 5 0] })).map (·.globalPowerDown) =
      some false ∧
    (next (step { guarded with
      units := { resetUnits with evo := { lastByte with enables := { noEvoBits with hbe := true } } }
      globalPowerDown := true, agenda := [.evoHighwayError] })).map (·.globalPowerDown) = some false ∧
    (next (step { capturing with globalPowerDown := true, agenda := [.xioBegin] })).map (·.globalPowerDown) =
      some true := by decide +kernel

end Sys2Proof.Tests
end

section
/-! PROOFS for 00_scope.md: what a false guard leaves (R10, R34, R196), and the invariant of every run (R7, R49, R55,
R119, R352). -/

namespace Sys2Proof.Machine

/-! ### A false guard -/

theorem State.guardHolds_some (s : State) (r : RegNo) : s.guardHolds (some r) = (s.readReg r).getLsbD 0 := rfl

theorem State.issueWhen_of_guard_false {s : State} {g : Option RegNo} (h : s.guardHolds g = false) (d : RegNo)
    (a : Attributes) (v : Word) (f : FpFlags) : s.issueWhen g d a v f = .next s := by
  simp [State.issueWhen, h]

theorem State.storeHalfWhen_of_guard_false {s : State} {g : Option RegNo} (h : s.guardHolds g = false) (a v : Word) :
    s.storeHalfWhen g a v = .next s := by
  simp [State.storeHalfWhen, h]

/-- An operation of a guarded form goes on with the state it found, whichever shared meaning it has: a result to issue,
a store, or a prefetch. The two conditions exclude the refusals of R151 and R198. -/
theorem exec_of_guard_false {i : Instr} {s : State} (h : s.guardHolds i.guard = false)
    (first : i.firstArgumentOk = true) (displacement : i.displacementOk = true) : exec i s = .next s := by
  cases i with
  | hSt16d g a b d k =>
    have hd : d = 0 := beq_iff_eq.1 displacement
    exact (if_pos hd).trans (State.storeHalfWhen_of_guard_false h _ _)
  | st16 g a b k => exact State.storeHalfWhen_of_guard_false h _ _
  | hDspiabs g a b d k =>
    have ha : a = 0 := beq_iff_eq.1 first
    exact (if_pos ha).trans (State.issueWhen_of_guard_false h _ _ _ _)
  | prefd g a d k => exact congrArg Host.Outcome.next (ite_self s)
  | carry g a b d k | mergemsb g a b d k | ume8ii g a b d k | quadavg g a b d k | dspuquadaddui g a b d k
  | dspiabs g b d k | ifixieee g a d k | cycles g d k => exact State.issueWhen_of_guard_false h _ _ _ _
  | _ => exact absurd h Bool.noConfusion

/-- Settles O30: the guard condition is false, and every guarded operation then goes on with the state it found. -/
theorem falseGuardDoesNothing : Obligations.FalseGuardDoesNothing := by
  intro i r s hg hbit first displacement
  refine exec_of_guard_false ?_ first displacement
  rw [hg, State.guardHolds_some, hbit]

/-! ### The number of registers, and the registers marked written -/

@[simp] theorem State.commitResult_nRegs (s : State) (p : InFlight) : (s.commitResult p).nRegs = s.nRegs :=
  List.length_set

@[simp] theorem State.commitResults_nRegs (s : State) (ps : List InFlight) :
    (s.commitResults ps).nRegs = s.nRegs := by
  induction ps generalizing s with
  | nil => rfl
  | cons p ps ih => exact (ih (s.commitResult p)).trans (s.commitResult_nRegs p)

@[simp] theorem State.prepare_nRegs (s : State) (ops : List Instr) : (s.prepare ops).nRegs = s.nRegs :=
  s.commitResults_nRegs _

@[simp] theorem State.drain_nRegs (s : State) : s.drain.nRegs = s.nRegs := s.commitResults_nRegs _

@[simp] theorem State.advance_nRegs (s : State) : s.advance.nRegs = s.nRegs := rfl

@[simp] theorem State.issue_nRegs (s : State) (d : RegNo) (l : Nat) (v : Word) (f : FpFlags) :
    (s.issue d l v f).nRegs = s.nRegs := by
  simp [State.nRegs]

theorem State.mem_written_commitResult {s : State} {p : InFlight} {r : RegNo} (h : r ∈ (s.commitResult p).written) :
    r = p.dest ∨ r ∈ s.written := by
  simp only [State.commitResult] at h
  split at h
  · exact .inr h
  · exact List.mem_cons.1 h

theorem State.mem_written_commitResults {s : State} {ps : List InFlight} {r : RegNo}
    (h : r ∈ (s.commitResults ps).written) : (∃ p ∈ ps, r = p.dest) ∨ r ∈ s.written := by
  induction ps generalizing s with
  | nil => exact .inr h
  | cons p ps ih =>
    rcases ih h with ⟨q, hq, hr⟩ | hr
    · exact .inl ⟨q, List.mem_cons_of_mem p hq, hr⟩
    · exact (State.mem_written_commitResult hr).imp_left fun hr => ⟨p, List.mem_cons_self, hr⟩

/-- Writing results that are in flight in a sound state marks registers of the file only. -/
theorem State.Inv.written_commitResults_lt {s : State} (h : s.Inv) {ps : List InFlight}
    (sub : ∀ p ∈ ps, p ∈ s.pending) :
    ∀ r ∈ (s.commitResults ps).written, r < s.nRegs := by
  obtain ⟨-, -, -, -, pending, written⟩ := h
  intro r hr
  rcases State.mem_written_commitResults hr with ⟨p, hp, rfl⟩ | hr
  · obtain ⟨-, -, -, lt⟩ := pending p (sub p hp)
    exact lt
  · exact written r hr

/-! ### Memory under a unit event -/

theorem orRefuse_eq_next {α : Type} {x : Except Refusal α} {f : α → State} {t : State} (h : orRefuse x f = .next t) :
    ∃ u, x = .ok u ∧ t = f u := by
  cases x with
  | ok u => cases h; exact ⟨u, rfl, rfl⟩
  | error r => cases h

theorem VideoIn.wf_sample {m : Memory} (h : m.wf) (u : VideoIn) (x : BitVec 10) : (u.sample x m).2.wf := by
  unfold VideoIn.sample
  split
  · exact Memory.wf_writeBytes h _ _
  · exact h

theorem VideoIn.wf_messageByte {m : Memory} (h : m.wf) (u : VideoIn) (b : Byte) : (u.messageByte b m).2.wf := by
  unfold VideoIn.messageByte
  split
  · exact Memory.wf_write h (BitVec.isLt _) b
  · exact h

theorem AudioIn.wf_highwayGrant {m : Memory} (h : m.wf) (u : AudioIn) : (u.highwayGrant m).2.wf := by
  unfold AudioIn.highwayGrant
  split
  · exact Memory.wf_writeBytes h _ _
  · exact h

theorem Icp.wf_send {m : Memory} (h : m.wf) (u : Icp) (bytes : List Byte) : (u.send bytes m).2.wf := by
  unfold Icp.send
  split
  · exact h
  · exact Memory.wf_writeBytes h _ _

theorem Icp.wf_producePixel {m : Memory} (h : m.wf) (u : Icp) : (u.producePixel m).2.wf :=
  Icp.wf_send h u.takeChroma _

/-- Four events write memory; a register write that may be refused changes the unit alone, as every other event does. -/
theorem unitEvent_keeps_mem_wf {e : UnitEvent} {s t : State} (h : unitEvent e s = .next t) (hm : s.mem.wf) :
    t.mem.wf := by
  cases e with
  | viSample x => cases h; exact VideoIn.wf_sample hm _ x
  | viMessageByte b => cases h; exact VideoIn.wf_messageByte hm _ b
  | aiHighwayGrant => cases h; exact AudioIn.wf_highwayGrant hm _
  | icpPixel => cases h; exact Icp.wf_producePixel hm _
  | viWriteSize | evoWriteCtl | evoWriteTiming | icpLoadTable | icpLoadParameters =>
    obtain ⟨u, -, rfl⟩ := orRefuse_eq_next h
    exact hm
  | _ => cases h; exact hm

/-- A unit's turn keeps the invariant: of what the invariant speaks of, it changes memory alone. -/
theorem State.Inv.unitTurn {s t : State} {e : UnitEvent} {rest : List UnitEvent} (h : s.Inv)
    (he : unitEvent e { s with agenda := rest } = .next t) : t.wake.Inv := by
  obtain ⟨nRegs, mem, others⟩ := h
  have mem' : t.mem.wf := unitEvent_keeps_mem_wf he mem
  rw [unitEvent_frame he]
  exact ⟨nRegs, mem', others⟩

/-! ### Results of a checked operation -/

/-- The destination of an operation that passes the checks of R119 is a writable register of the file. -/
theorem Instr.dest_of_formOk {c : Config} {n : Nat} {i : Instr} {d : RegNo} (h : i.formOk c n = true)
    (hd : i.dest = some d) : 2 ≤ d ∧ d < n := by
  simp only [Instr.formOk, Instr.registersOk, Instr.destOk, hd, Bool.and_eq_true, Option.all_some,
    decide_eq_true_eq] at h
  obtain ⟨⟨⟨-, -, lt⟩, ge⟩, -⟩ := h
  exact ⟨ge, lt⟩

theorem Config.latencies_of_wf {c : Config} (h : c.wf = true) : 1 ≤ c.quadavgLatency ∧ 1 ≤ c.dspuquadadduiLatency := by
  simp only [Config.wf, Bool.and_eq_true, decide_eq_true_eq] at h
  exact h.1

/-- In a legal configuration a result is visible to a later instruction only (R55): the latencies of the tables are at
least 1, and so are the two that the configuration gives. -/
theorem Instr.one_le_resultLatency {c : Config} (h : c.wf = true) {i : Instr} {a : Attributes}
    (ha : i.attributes c = some a) (hl : a.latency.isSome = true) : 1 ≤ a.resultLatency := by
  obtain ⟨quadavg, dspuquadaddui⟩ := Config.latencies_of_wf h
  cases i with
  | quadavg => cases ha; exact quadavg
  | dspuquadaddui => cases ha; exact dspuquadaddui
  | carry | mergemsb | ume8ii | hDspiabs | dspiabs | ifixieee | cycles | uimm => cases ha; decide
  | hSt16d | st16 | prefd => cases ha; cases hl
  | _ => cases ha

/-! ### The invariant inside an instruction -/

/-- The invariant between two operations of an instruction. The results due at the instruction have been written, so
those in flight are sound for the next one; what the instruction has stored so far is free. -/
structure State.MidInv (s : State) : Prop where
  nRegs_ge : 126 ≤ s.nRegs
  mem_wf : s.mem.wf
  cfg_wf : s.cfg.wf = true
  pending_sound : ∀ p ∈ s.pending, p.sound (s.ip + 1) s.nRegs
  written_lt : ∀ r ∈ s.written, r < s.nRegs

/-- Step 1 of R352 establishes it: a result in flight that is not due now is due later. -/
theorem State.Inv.prepare {s : State} (h : s.Inv) (ops : List Instr) : (s.prepare ops).MidInv := by
  have written := h.written_commitResults_lt (ps := s.pending.filter fun p => p.due == s.ip)
    fun p hp => List.mem_of_mem_filter hp
  obtain ⟨nRegs, mem, cfg, -, pending, -⟩ := h
  refine ⟨by simpa using nRegs, by simpa using mem, by simpa using cfg, fun p hp => ?_,
    by rw [State.prepare_nRegs]; exact written⟩
  rw [State.prepare_pending, List.mem_filter, bne_iff_ne] at hp
  obtain ⟨hp, later⟩ := hp
  obtain ⟨due, issued, ge, lt⟩ := pending p hp
  rw [State.prepare_ip, State.prepare_nRegs]
  exact ⟨by omega, by omega, ge, lt⟩

/-- Step 6 of R352 ends the instruction: the next one is at the program position. -/
theorem State.MidInv.advance {s : State} (h : s.MidInv) : s.advance.Inv :=
  ⟨h.nRegs_ge, h.mem_wf, h.cfg_wf, rfl, h.pending_sound, h.written_lt⟩

theorem State.MidInv.issue {s : State} (h : s.MidInv) {d : RegNo} {l : Nat} (hl : 1 ≤ l) (ge : 2 ≤ d)
    (lt : d < s.nRegs) (v : Word) (f : FpFlags) : (s.issue d l v f).MidInv := by
  refine ⟨by simpa using h.nRegs_ge, by simpa using h.mem_wf, by simpa using h.cfg_wf, fun p hp => ?_,
    by simpa using h.written_lt⟩
  rw [State.issue_ip, State.issue_nRegs]
  rcases State.mem_issue_pending hp with ⟨q, hq, due, issued, dest, -⟩ | ⟨due, issued, dest, -⟩
  · have sound := h.pending_sound q hq
    rwa [InFlight.sound, due, issued, dest]
  · rw [InFlight.sound, due, issued, dest]
    exact ⟨by omega, by omega, ge, lt⟩

/-- Each operation that passes the checks of R119 keeps it, whichever of its effects it has. -/
theorem State.MidInv.effect {s t : State} {i : Instr} (h : s.MidInv) (ok : i.formOk s.cfg s.nRegs = true)
    (e : Effect s i t) : t.MidInv := by
  cases e with
  | nothing => exact h
  | issues d a v f hd ha hl hg =>
    obtain ⟨ge, lt⟩ := Instr.dest_of_formOk ok hd
    exact h.issue (Instr.one_le_resultLatency h.cfg_wf ha hl) ge lt v f
  | storesAligned => exact { h with mem_wf := Memory.wf_writeBytes h.mem_wf _ _ }
  | storesMisaligned => exact { h with mem_wf := Memory.wf_writeCells h.mem_wf _ }

/-- The checks of R119 are made once, before the operations; an operation leaves the configuration and the number of
registers they were made against. -/
theorem Effect.cfg_nRegs {s t : State} {i : Instr} (e : Effect s i t) : t.cfg = s.cfg ∧ t.nRegs = s.nRegs := by
  rw [e.frame]
  exact ⟨rfl, rfl⟩

theorem State.MidInv.execOperations {s t : State} {ops : List Instr} (h : s.MidInv)
    (ok : ∀ i ∈ ops, i.formOk s.cfg s.nRegs = true) (he : execOperations ops s = .next t) : t.MidInv := by
  have kept : t.MidInv ∧ t.cfg = s.cfg ∧ t.nRegs = s.nRegs := by
    refine execOperations_induct (P := fun u => u.MidInv ∧ u.cfg = s.cfg ∧ u.nRegs = s.nRegs) he ⟨h, rfl, rfl⟩ ?_
    intro i hi u w ⟨mid, cfg, nRegs⟩ e
    obtain ⟨cfg', nRegs'⟩ := e.cfg_nRegs
    have mid' : w.MidInv := mid.effect (by rw [cfg, nRegs]; exact ok i hi) e
    -- the number of the next draw stands in no clause of the invariant
    exact ⟨{ mid' with }, cfg'.trans cfg, nRegs'.trans nRegs⟩
  exact kept.1

theorem State.Inv.drain {s : State} (h : s.Inv) : s.drain.Inv := by
  have written := h.written_commitResults_lt (ps := s.pending.insertionSort fun p q => p.due ≤ q.due)
    fun p hp => (List.mem_insertionSort _).1 hp
  obtain ⟨nRegs, mem, cfg, stored, -, -⟩ := h
  exact ⟨by simpa using nRegs, by simpa using mem, by simpa using cfg, by simpa using stored, by simp,
    by rw [State.drain_nRegs]; exact written⟩

/-- Settles O47, by the four things a step can be: a unit's turn, a wait, the end of the run, or an instruction, whose
operations are taken one by one under `State.MidInv`. -/
theorem everyStepKeepsTheInvariant : Obligations.EveryStepKeepsTheInvariant := by
  intro s t inv hstep
  rcases step_cases hstep with ⟨e, rest, u, -, he, rfl⟩ | ⟨-, -, rfl⟩ | ⟨-, -, rfl⟩ | ⟨recs, ops, u, -, -, hc, he, rfl⟩
  · exact inv.unitTurn he
  · exact inv
  · exact inv.drain
  · obtain ⟨-, checked⟩ := checkInstruction_ok hc
    refine ((inv.prepare ops).execOperations (fun i hi => ?_) he).advance
    rw [State.prepare_cfg, State.prepare_nRegs]
    exact (checked i hi).1

end Sys2Proof.Machine
end

section
/-! PROOFS for 10_state.md: reset (R51), reads of registers (R31 to R33), the end of a run (R35, R55), memory (R49), PCSW
(R36 to R43), the exception request (R47), CCCOUNT (R45), and the configuration and program (R53, R89). -/

namespace Sys2Proof.Machine

/-! ### The state after reset -/

theorem State.reset_inv : State.reset.Inv :=
  ⟨by simp [State.nRegs, State.reset], by decide, by decide, rfl, nofun, nofun⟩

theorem State.reset_unitsAligned : State.reset.unitsAligned := by decide

/-- The Enhanced Video Out and the Image Coprocessor hold zeros, and no transfer is on the PCI-XIO bus. -/
theorem State.reset_unitsSound : State.reset.unitsSound :=
  ⟨by decide, by decide, nofun⟩

/-- Settles O45, by evaluating the state after reset. -/
theorem resetIsSound : Obligations.ResetIsSound :=
  ⟨State.reset_inv, State.reset_unitsAligned, State.reset_unitsSound⟩

/-! ### Reading a register -/

theorem State.readReg_of_hardwired {s : State} {r : RegNo} {v : Word} (h : hardwired s.cfg r = some v) :
    s.readReg r = v := by
  simp [State.readReg, h]

/-- Outside a latency window an ordinary register reads as the register file holds it (R353). -/
theorem State.readReg_of_not_inWindow {s : State} {r : RegNo} (ordinary : hardwired s.cfg r = none)
    (h : s.inWindow r = false) : s.readReg r = s.fileReg r := by
  simp [State.readReg, ordinary, h]

theorem hardwired_zero (c : Config) : hardwired c 0 = some 0 := rfl

theorem hardwired_one (c : Config) : hardwired c 1 = if c.r1IsOne then some 1 else none := by
  simp [hardwired]

/-- A register is inside a latency window only while it has a result in flight. -/
theorem State.inWindow_of_not_inFlight {s : State} {r : RegNo} (h : s.inFlight r = false) : s.inWindow r = false := by
  simp only [State.inFlight, State.inWindow, List.any_eq_false, Bool.and_eq_true, not_and] at h ⊢
  exact fun p hp hd => absurd hd (h p hp)

/-- A register passes the check of its reads in one of two ways (R352 step 3). -/
theorem State.checkRead_eq_none {s : State} {r : RegNo} (h : s.checkRead r = none) :
    (hardwired s.cfg r).isSome = true ∨ (s.inFlight r = false ∧ r ∈ s.written) := by
  unfold State.checkRead at h
  split at h
  · rename_i hw
    exact .inl hw
  · split at h
    · cases h
    · rename_i free
      split at h
      · rename_i written
        exact .inr ⟨Bool.eq_false_of_not_eq_true free, List.contains_iff_mem.1 written⟩
      · cases h

theorem State.defined_of_checkRead {s : State} {r : RegNo} (h : s.checkRead r = none) : s.defined r := by
  cases hw : hardwired s.cfg r with
  | some v => exact .inr (by rw [hw, State.readReg_of_hardwired hw])
  | none =>
    obtain fixed | ⟨free, written⟩ := State.checkRead_eq_none h
    · rw [hw] at fixed
      cases fixed
    · exact .inl ⟨State.readReg_of_not_inWindow hw (State.inWindow_of_not_inFlight free), written⟩

/-- An operation that fails no check of its reads has checked its guard register, and its sources under a true guard. -/
theorem State.checkReads_eq_none {s : State} {i : Instr} (h : s.checkReads i = none) :
    (∀ r, i.guard = some r → s.checkRead r = none) ∧
      (s.guardHolds i.guard = true → ∀ r ∈ i.sources, s.checkRead r = none) := by
  obtain ⟨guard, sources⟩ := (Option.orElse_eq_none _ _).1 h
  rw [List.findSome?_eq_none_iff] at guard
  refine ⟨fun r hr => guard r (by simp [hr]), fun hg => ?_⟩
  rwa [if_pos hg, List.findSome?_eq_none_iff] at sources

/-- Settles O36: what has been checked is read as defined. -/
theorem checkedReadsAreDefined : Obligations.CheckedReadsAreDefined := by
  intro s i h
  obtain ⟨guard, sources⟩ := State.checkReads_eq_none h
  exact ⟨fun r hr => State.defined_of_checkRead (guard r hr),
    fun hg r hr => State.defined_of_checkRead (sources hg r hr)⟩

/-! ### The step of an instruction -/

theorem step_of_fetch {s : State} {recs : List OpRecord} (turn : s.onTurn) (hf : s.fetch = some recs) :
    step s = executeInstruction recs s := by
  obtain ⟨agenda, awake⟩ := turn
  simp [step, dspcpuStep, agenda, awake, hf]

theorem step_of_end {s : State} (turn : s.onTurn) (hf : s.fetch = none) : step s = .next s.drain := by
  obtain ⟨agenda, awake⟩ := turn
  simp [step, dspcpuStep, agenda, awake, hf]

theorem executeInstruction_of_error {recs : List OpRecord} {s : State} {r : Refusal}
    (h : checkInstruction s.cfg s.nRegs recs = .error r) : executeInstruction recs s = .refused r := by
  simp [executeInstruction, h]

/-- The next state of an instruction: its operations, in slot order, between steps 1 to 3 and step 6 of R352. -/
theorem step_of_fetch_eq_next {s t : State} {recs : List OpRecord} (turn : s.onTurn) (hf : s.fetch = some recs)
    (h : step s = .next t) :
    ∃ u, checkInstruction s.cfg s.nRegs recs = .ok (operationsOf recs) ∧
      execOperations (operationsOf recs) (s.prepare (operationsOf recs)) = .next u ∧ t = u.advance := by
  rw [step_of_fetch turn hf] at h
  obtain ⟨ops, u, hc, hu, ht⟩ := executeInstruction_eq_next h
  obtain ⟨rfl, -⟩ := checkInstruction_ok hc
  exact ⟨u, hc, hu, ht⟩

theorem mem_operationsOf {recs : List OpRecord} {i : Instr} : i ∈ operationsOf recs ↔ ∃ r ∈ recs, decode r = .ok i := by
  simp only [operationsOf, List.mem_insertionSort, List.mem_filterMap]
  refine exists_congr fun r => and_congr_right fun _ => ?_
  cases decode r <;> simp [Except.toOption]

/-! ### Destinations that are refused -/

/-- Among operations that are all known, one that fails a check of R119 makes the instruction ill-formed: the order of
R362 puts only unknown and named-only operations first. -/
theorem checkInstruction_of_not_formOk {c : Config} {n : Nat} {recs : List OpRecord}
    (known : ∀ q ∈ recs, decode q ≠ .error .unknownOperation) (named : ∀ j ∈ operationsOf recs, j.namedOnly = none)
    {i : Instr} (hi : i ∈ operationsOf recs) (bad : i.formOk c n = false) :
    checkInstruction c n recs = .error .illFormed := by
  have noUnknown : recs.any (rejectedFor .unknownOperation) = false := by
    rw [List.any_eq_false]
    intro q hq
    have hk := known q hq
    unfold rejectedFor
    cases hd : decode q with
    | ok j => simp
    | error e => rw [hd] at hk; simpa using hk
  have noNamed : (operationsOf recs).findSome? Instr.namedOnly = none := List.findSome?_eq_none_iff.2 named
  have notAll : (operationsOf recs).all (Instr.formOk c n) = false := List.all_eq_false.2 ⟨i, hi, by simp [bad]⟩
  simp [checkInstruction, noUnknown, noNamed, notAll]

theorem Instr.not_formOk_of_dest {i : Instr} {d : RegNo} (hd : i.dest = some d) (lt : d < 2) (c : Config) (n : Nat) :
    i.formOk c n = false := by
  refine Bool.eq_false_of_not_eq_true fun ok => ?_
  obtain ⟨ge, -⟩ := Instr.dest_of_formOk ok hd
  exact Nat.not_lt.2 ge lt

/-- Settles O37: the reads by what is hard-wired, the refusal by the check of destinations (R119). -/
theorem hardwiredRegisters : Obligations.HardwiredRegisters := by
  intro s
  refine ⟨State.readReg_of_hardwired (hardwired_zero _), fun one => ?_, fun ordinary window => ?_, ?_⟩
  · exact State.readReg_of_hardwired (by rw [hardwired_one, one]; rfl)
  · exact State.readReg_of_not_inWindow (by rw [hardwired_one, ordinary]; rfl) window
  · intro recs r i turn hf hr known named hd dest
    have bad : i.formOk s.cfg s.nRegs = false := by
      rcases dest with dest | dest <;> exact Instr.not_formOk_of_dest dest (by decide) _ _
    have named' : ∀ j ∈ operationsOf recs, j.namedOnly = none := by
      intro j hj
      obtain ⟨q, hq, hdj⟩ := mem_operationsOf.1 hj
      exact named q hq j hdj
    rw [step_of_fetch turn hf, executeInstruction_of_error
      (checkInstruction_of_not_formOk known named' (mem_operationsOf.2 ⟨r, hr, hd⟩) bad)]

/-! ### Results that reach the registers and PCSW -/

theorem State.fileReg_commitResult (s : State) (p : InFlight) (r : RegNo) :
    (s.commitResult p).fileReg r = if p.dest = r ∧ r < s.nRegs then p.value else s.fileReg r := by
  simp only [State.fileReg, State.commitResult_regs, State.nRegs, List.getD_eq_getElem?_getD, List.getElem?_set]
  by_cases hd : p.dest = r
  · subst hd
    by_cases lt : p.dest < s.regs.length <;> simp [lt]
  · simp [hd]

/-- A register keeps its content through results for other registers and results of that same content. -/
theorem State.fileReg_commitResults_eq {s : State} {ps : List InFlight} {r : RegNo} {v : Word} (hs : s.fileReg r = v)
    (h : ∀ p ∈ ps, p.dest = r → p.value = v) : (s.commitResults ps).fileReg r = v := by
  induction ps generalizing s with
  | nil => exact hs
  | cons p ps ih =>
    refine ih (s := s.commitResult p) ?_ fun q hq => h q (List.mem_cons_of_mem p hq)
    rw [State.fileReg_commitResult]
    split
    · rename_i hp
      exact h p List.mem_cons_self hp.1
    · exact hs

/-- Results written in order of `due`: the register of one ends with its value where every other for that register is due
before it or has the same value. -/
theorem State.fileReg_commitResults_of_last {s : State} {ps : List InFlight} {p : InFlight}
    (sorted : ps.Pairwise fun x y => x.due ≤ y.due) (hp : p ∈ ps) (lt : p.dest < s.nRegs)
    (last : ∀ q ∈ ps, q.dest = p.dest → q.due < p.due ∨ q.value = p.value) :
    (s.commitResults ps).fileReg p.dest = p.value := by
  induction ps generalizing s with
  | nil => cases hp
  | cons q ps ih =>
    obtain ⟨first, sorted⟩ := List.pairwise_cons.1 sorted
    have last' : ∀ x ∈ ps, x.dest = p.dest → x.due < p.due ∨ x.value = p.value :=
      fun x hx => last x (List.mem_cons_of_mem q hx)
    rcases List.mem_cons.1 hp with rfl | hp
    · refine State.fileReg_commitResults_eq (s := s.commitResult p) ?_ fun x hx hd => ?_
      · rw [State.fileReg_commitResult, if_pos ⟨rfl, lt⟩]
      · exact (last' x hx hd).resolve_left (Nat.not_lt.2 (first x hx))
    · exact ih (s := s.commitResult q) sorted hp (by rwa [State.commitResult_nRegs]) last'

/-- The flags that some of the results carry. -/
def flagsOf (ps : List InFlight) : FpFlags := ⟨ps.any (·.flags.ifz), ps.any (·.flags.inx), ps.any (·.flags.inv)⟩

theorem State.commitResults_pcsw (s : State) (ps : List InFlight) :
    (s.commitResults ps).pcsw = s.pcsw.orFlags (flagsOf ps) := by
  induction ps generalizing s with
  | nil => simp [State.commitResults, flagsOf, Pcsw.orFlags]
  | cons p ps ih =>
    refine (ih (s.commitResult p)).trans ?_
    simp [flagsOf, Pcsw.orFlags, Bool.or_assoc]

theorem flagsOf_perm {ps qs : List InFlight} (h : ps.Perm qs) : flagsOf ps = flagsOf qs := by
  simp only [flagsOf, h.any_eq]

/-- Results change their registers and PCSW only. -/
theorem State.commitResults_frame (s : State) (ps : List InFlight) :
    s.commitResults ps = { s with
      regs := (s.commitResults ps).regs
      written := (s.commitResults ps).written
      pcsw := (s.commitResults ps).pcsw } := by
  induction ps generalizing s with
  | nil => rfl
  | cons p ps ih => exact ih (s.commitResult p)

/-! ### The end of a run -/

theorem State.drain_pcsw (s : State) : s.drain.pcsw = s.pcsw.orFlags (flagsOf s.pending) :=
  (s.commitResults_pcsw _).trans (by rw [flagsOf_perm (List.perm_insertionSort _ _)])

/-- The end of a run changes the registers of the results, PCSW and the results in flight only. -/
theorem State.drain_frame (s : State) : s.drain = { s with
    regs := s.drain.regs, written := s.drain.written, pending := [], pcsw := s.drain.pcsw } :=
  congrArg (fun u : State => { u with pending := [] }) (s.commitResults_frame _)

/-- A drained state has nothing left to drain. -/
theorem State.drain_drain (s : State) : s.drain.drain = s.drain := rfl

theorem State.drain_onTurn {s : State} (h : s.onTurn) : s.drain.onTurn :=
  ⟨s.drain_agenda.trans h.1, s.drain_globalPowerDown.trans h.2⟩

theorem State.drain_fetch (s : State) : s.drain.fetch = s.fetch := by
  simp [State.fetch]

/-- The end of a run writes in order of `due`, so of two results for a register the later one stays (R352). -/
theorem State.fileReg_drain_of_last {s : State} {p : InFlight} (hp : p ∈ s.pending) (lt : p.dest < s.nRegs)
    (last : ∀ q ∈ s.pending, q.dest = p.dest → q.due < p.due ∨ q.value = p.value) :
    s.drain.fileReg p.dest = p.value := by
  have sorted : (s.pending.insertionSort fun x y => x.due ≤ y.due).Pairwise fun x y => x.due ≤ y.due :=
    List.pairwise_insertionSort (InFlight.due ⁻¹'o (· ≤ ·)) s.pending
  exact State.fileReg_commitResults_of_last (s := s) sorted ((List.mem_insertionSort _).2 hp) lt
    fun q hq => last q ((List.mem_insertionSort _).1 hq)

theorem State.fileReg_drain_of_ne {s : State} {r : RegNo} (h : ∀ p ∈ s.pending, p.dest ≠ r) :
    s.drain.fileReg r = s.fileReg r :=
  State.fileReg_commitResults_eq (s := s) rfl fun p hp hd => absurd hd (h p ((List.mem_insertionSort _).1 hp))

/-- Settles O16: the step is the drain, after which nothing is in flight. -/
theorem endOfRunDrains : Obligations.EndOfRunDrains := by
  intro s turn hf
  refine ⟨s.drain, step_of_end turn hf, ?_, ?_, ?_, ?_⟩
  · rw [step_of_end (State.drain_onTurn turn) (s.drain_fetch.trans hf), State.drain_drain]
  · conv_lhs => rw [State.drain_frame, State.drain_pcsw]
    rfl
  · exact fun p hp lt last => State.fileReg_drain_of_last hp lt last
  · exact fun r h => State.fileReg_drain_of_ne h

/-! ### What the operations of an instruction leave -/

/-- What the operations of an instruction may change: results in flight, memory, the stores of the instruction, MSE, the
exception request and the number of the next draw. -/
abbrev State.OperationsFrame (s t : State) : Prop :=
  t = { s with pending := t.pending, mem := t.mem, stored := t.stored, excPending := t.excPending, draws := t.draws,
               pcsw := { s.pcsw with mse := t.pcsw.mse } }

theorem execOperations_frame {ops : List Instr} {s t : State} (h : execOperations ops s = .next t) :
    s.OperationsFrame t := by
  refine execOperations_induct (P := s.OperationsFrame) h rfl fun i _ u w hu e => ?_
  have hw := e.frame
  rw [hu] at hw
  rw [hw]

/-- An operation with no store address is no store, and leaves memory (R54). -/
theorem Effect.mem_of_not_store {s t : State} {i : Instr} (e : Effect s i t) (h : i.storeAddressReg = none) :
    t.mem = s.mem := by
  cases e with
  | nothing => rfl
  | issues => exact State.issue_mem ..
  | storesAligned r v hr | storesMisaligned r v hr => rw [h] at hr; cases hr

/-- Settles O43: the results that step 1 of R352 writes are no memory, and no operation of the instruction is a store. -/
theorem onlyStoresChangeMemory : Obligations.OnlyStoresChangeMemory := by
  intro s t recs turn hf hstep noStore
  obtain ⟨u, -, hu, rfl⟩ := step_of_fetch_eq_next turn hf hstep
  show u.mem = s.mem
  refine execOperations_induct (P := fun u => u.mem = s.mem) hu (State.prepare_mem s _) fun i hi v w hv e => ?_
  obtain ⟨r, hr, hd⟩ := mem_operationsOf.1 hi
  exact (e.mem_of_not_store (noStore r hr i hd)).trans hv

/-! ### PCSW and the exception request -/

/-- Control fields, OVF and UNF are kept, and MSE and the sticky flags are not cleared (R42, R43, R53, R177). -/
structure Pcsw.Grows (p q : Pcsw) : Prop where
  cs : q.cs = p.cs
  bytesex : q.bytesex = p.bytesex
  trpmse : q.trpmse = p.trpmse
  rm : q.rm = p.rm
  ovf : q.ovf = p.ovf
  unf : q.unf = p.unf
  mse : p.mse = true → q.mse = true
  ifz : p.ifz = true → q.ifz = true
  inx : p.inx = true → q.inx = true
  inv : p.inv = true → q.inv = true

theorem Pcsw.Grows.refl (p : Pcsw) : p.Grows p := ⟨rfl, rfl, rfl, rfl, rfl, rfl, id, id, id, id⟩

theorem Pcsw.Grows.trans {p q r : Pcsw} (h : p.Grows q) (k : q.Grows r) : p.Grows r where
  cs := k.cs.trans h.cs
  bytesex := k.bytesex.trans h.bytesex
  trpmse := k.trpmse.trans h.trpmse
  rm := k.rm.trans h.rm
  ovf := k.ovf.trans h.ovf
  unf := k.unf.trans h.unf
  mse := k.mse ∘ h.mse
  ifz := k.ifz ∘ h.ifz
  inx := k.inx ∘ h.inx
  inv := k.inv ∘ h.inv

theorem Pcsw.grows_orFlags (p : Pcsw) (f : FpFlags) : p.Grows (p.orFlags f) where
  cs := rfl
  bytesex := rfl
  trpmse := rfl
  rm := rfl
  ovf := rfl
  unf := rfl
  mse := id
  ifz := Bool.or_inl
  inx := Bool.or_inl
  inv := Bool.or_inl

theorem Pcsw.grows_setMse (p : Pcsw) : p.Grows { p with mse := true } :=
  { Pcsw.Grows.refl p with mse := fun _ => rfl }

theorem State.commitResults_pcsw_grows (s : State) (ps : List InFlight) : s.pcsw.Grows (s.commitResults ps).pcsw := by
  rw [State.commitResults_pcsw]
  exact Pcsw.grows_orFlags _ _

/-- Of what an operation can do, only a misaligned store reaches PCSW and the exception request, and it sets (R240). -/
theorem Effect.pcsw_grows {s t : State} {i : Instr} (e : Effect s i t) :
    s.pcsw.Grows t.pcsw ∧ (s.excPending = true → t.excPending = true) := by
  cases e with
  | nothing => exact ⟨.refl _, id⟩
  | issues => rw [State.issue_pcsw, State.issue_excPending]; exact ⟨.refl _, id⟩
  | storesAligned => exact ⟨.refl _, id⟩
  | storesMisaligned => exact ⟨Pcsw.grows_setMse _, Bool.or_inl⟩

theorem execOperations_pcsw_grows {ops : List Instr} {s t : State} (h : execOperations ops s = .next t) :
    s.pcsw.Grows t.pcsw ∧ (s.excPending = true → t.excPending = true) := by
  refine execOperations_induct (P := fun u => s.pcsw.Grows u.pcsw ∧ (s.excPending = true → u.excPending = true)) h
    ⟨.refl _, id⟩ fun i _ u w ⟨pcsw, exc⟩ e => ?_
  obtain ⟨pcsw', exc'⟩ := e.pcsw_grows
  exact ⟨pcsw.trans pcsw', exc' ∘ exc⟩

/-- Every step: a unit's turn and a wait leave PCSW and the request, the end of the run and step 1 of an instruction OR
flags into PCSW, and the operations follow. -/
theorem step_pcsw_grows {s t : State} (h : step s = .next t) :
    s.pcsw.Grows t.pcsw ∧ (s.excPending = true → t.excPending = true) := by
  rcases step_cases h with ⟨e, rest, u, -, he, rfl⟩ | ⟨-, -, rfl⟩ | ⟨-, -, rfl⟩ | ⟨recs, ops, u, -, -, -, he, rfl⟩
  · rw [unitEvent_frame he]
    exact ⟨.refl _, id⟩
  · exact ⟨.refl _, id⟩
  · rw [State.drain_excPending]
    exact ⟨s.commitResults_pcsw_grows _, id⟩
  · obtain ⟨pcsw, exc⟩ := execOperations_pcsw_grows he
    rw [State.prepare_excPending] at exc
    exact ⟨(s.commitResults_pcsw_grows _).trans pcsw, exc⟩

/-- Settles O50, the obligation being `Pcsw.Grows` written out. -/
theorem pcswFlagsAreSticky : Obligations.PcswFlagsAreSticky := by
  intro s t h
  obtain ⟨grows, -⟩ := step_pcsw_grows h
  exact ⟨grows.cs, grows.bytesex, grows.trpmse, grows.rm, grows.ovf, grows.unf, grows.mse, grows.ifz, grows.inx,
    grows.inv⟩

/-! ### CCCOUNT -/

theorem execOperations_draws_le {ops : List Instr} {s t : State} (h : execOperations ops s = .next t) :
    s.draws ≤ t.draws := by
  refine execOperations_induct (P := fun u => s.draws ≤ u.draws) h le_rfl fun i _ u w hu e => ?_
  have same : w.draws = u.draws := by rw [e.frame]
  show s.draws ≤ w.draws + 1
  omega

theorem State.advance_cccountMaster (s : State) : s.advance.cccountMaster =
    s.cccountMaster + BitVec.ofNat 64 (Config.nonStallCycles s.draws) +
      (if s.pcsw.cs then BitVec.ofNat 64 (Config.stallCycles s.draws) else 0) := rfl

/-- Settles O52: the draw is the one at which the operations of the instruction have arrived, and neither they nor step 1
of R352 change CCCOUNT or PCSW.CS. -/
theorem masterCccountCountsCycles : Obligations.MasterCccountCountsCycles := by
  intro s t recs turn hf hstep
  obtain ⟨u, -, hu, rfl⟩ := step_of_fetch_eq_next turn hf hstep
  have draws : s.draws ≤ u.draws := by simpa using execOperations_draws_le hu
  have master : u.cccountMaster = s.cccountMaster := by rw [execOperations_frame hu, State.prepare_cccountMaster]
  have cs : u.pcsw.cs = s.pcsw.cs :=
    ((s.commitResults_pcsw_grows _).trans (execOperations_pcsw_grows hu).1).cs
  refine ⟨u.draws, draws, rfl, fun off => ?_, fun on => ?_⟩
  · rw [State.advance_cccountMaster, master, cs, off, if_neg Bool.false_ne_true, add_zero]
  · rw [State.advance_cccountMaster, master, cs, on, if_pos rfl, BitVec.ofNat_add, BitVec.add_assoc]

/-! ### The configuration, the program and the recorded breach -/

/-- What no step changes (R44, R53, R89). -/
abbrev State.SameRun (s t : State) : Prop :=
  t.cfg = s.cfg ∧ t.program = s.program ∧ t.dpc = s.dpc ∧ t.spc = s.spc ∧ t.nRegs = s.nRegs

theorem step_sameRun {s t : State} (h : step s = .next t) : s.SameRun t := by
  rcases step_cases h with ⟨e, rest, u, -, he, rfl⟩ | ⟨-, -, rfl⟩ | ⟨-, -, rfl⟩ | ⟨recs, ops, u, -, -, -, he, rfl⟩
  · rw [unitEvent_frame he]
    exact ⟨rfl, rfl, rfl, rfl, rfl⟩
  · exact ⟨rfl, rfl, rfl, rfl, rfl⟩
  · exact ⟨s.drain_cfg, s.drain_program, s.drain_dpc, s.drain_spc, s.drain_nRegs⟩
  · have same : (s.prepare ops).SameRun u.advance := by
      rw [execOperations_frame he]
      exact ⟨rfl, rfl, rfl, rfl, rfl⟩
    simpa [State.SameRun] using same

theorem State.prepare_breach (s : State) (ops : List Instr) :
    (s.prepare ops).breach = (s.breach <|> s.commit.firstBreach ops) := by
  conv_rhs => rw [← State.commit_breach]
  rfl

/-- An instruction that goes on records its first check that fires, unless one is recorded already (log 14). -/
theorem step_breach_of_fetch {s t : State} {recs : List OpRecord} (turn : s.onTurn) (hf : s.fetch = some recs)
    (h : step s = .next t) : t.breach = (s.breach <|> s.commit.firstBreach (operationsOf recs)) := by
  obtain ⟨u, -, hu, rfl⟩ := step_of_fetch_eq_next turn hf h
  have recorded : u.advance.breach = (s.prepare (operationsOf recs)).breach := by rw [execOperations_frame hu]; rfl
  rw [recorded, State.prepare_breach]

theorem step_breach_of_no_instruction {s t : State} (ended : s.onTurn → s.fetch = none) (h : step s = .next t) :
    t.breach = s.breach := by
  rcases step_cases h with ⟨e, rest, u, -, he, rfl⟩ | ⟨-, -, rfl⟩ | ⟨-, -, rfl⟩ | ⟨recs, ops, u, turn, hf, -⟩
  · rw [unitEvent_frame he]
    rfl
  · rfl
  · exact s.drain_breach
  · rw [ended turn] at hf
    cases hf

theorem ruledStep_of_no_instruction {s : State} (ended : s.onTurn → s.fetch = none) : ruledStep s = step s := by
  unfold ruledStep step dspcpuStep
  cases ha : s.agenda with
  | cons e rest => rfl
  | nil =>
    cases hp : s.globalPowerDown with
    | true => rfl
    | false => simp [ended ⟨ha, hp⟩]

/-- A breach that is recorded stays: an instruction's own check comes second, and no other step records one. -/
theorem step_keeps_breach {s t : State} (h : step s = .next t) (recorded : s.breach ≠ none) : t.breach = s.breach := by
  cases hf : s.fetch with
  | none => exact step_breach_of_no_instruction (fun _ => hf) h
  | some recs =>
    by_cases turn : s.onTurn
    · obtain ⟨b, hb⟩ := Option.ne_none_iff_exists'.1 recorded
      rw [step_breach_of_fetch turn hf h, hb]
      rfl
    · exact step_breach_of_no_instruction (fun yes => absurd yes turn) h

/-- R352 and R362 run a well-formed instruction of which no check fires. -/
theorem ruledStep_of_passes {s : State} {recs : List OpRecord} (turn : s.onTurn) (hf : s.fetch = some recs)
    (hc : checkInstruction s.cfg s.nRegs recs = .ok (operationsOf recs))
    (passes : s.commit.firstBreach (operationsOf recs) = none) : ruledStep s = step s := by
  rw [step_of_fetch turn hf]
  obtain ⟨agenda, awake⟩ := turn
  simp [ruledStep, ruledInstruction, agenda, awake, hf, hc, passes]

/-- R352 and R362 end a well-formed instruction with its first check that fires. -/
theorem ruledStep_of_fires {s : State} {recs : List OpRecord} {b : Breach} (turn : s.onTurn)
    (hf : s.fetch = some recs) (hc : checkInstruction s.cfg s.nRegs recs = .ok (operationsOf recs))
    (fires : s.commit.firstBreach (operationsOf recs) = some b) : ruledStep s = b.outcome := by
  obtain ⟨agenda, awake⟩ := turn
  simp [ruledStep, ruledInstruction, agenda, awake, hf, hc, fires]

/-- Settles O51: the check of form passes where `step` goes on, so `ruledStep` turns on the first breach alone. -/
theorem configurationAndRequestsStay : Obligations.ConfigurationAndRequestsStay := by
  intro s t h
  obtain ⟨cfg, program, dpc, spc, nRegs⟩ := step_sameRun h
  obtain ⟨-, exc⟩ := step_pcsw_grows h
  refine ⟨cfg, program, dpc, spc, nRegs, exc, step_keeps_breach h, ?_, ?_, ?_⟩
  · intro recs turn hf passes
    obtain ⟨u, hc, -⟩ := step_of_fetch_eq_next turn hf h
    refine ⟨?_, (ruledStep_of_passes turn hf hc passes).trans h⟩
    rw [step_breach_of_fetch turn hf h, passes]
    simp
  · intro recs b turn hf fires
    obtain ⟨u, hc, -⟩ := step_of_fetch_eq_next turn hf h
    refine ⟨fun clean => ?_, ruledStep_of_fires turn hf hc fires⟩
    rw [step_breach_of_fetch turn hf h, fires, clean]
    rfl
  · intro ended
    exact ⟨step_breach_of_no_instruction ended h, (ruledStep_of_no_instruction ended).trans h⟩

end Sys2Proof.Machine
end

section
/-! PROOFS for 20_memory.md and the 16-bit store of 44_dmem.md: an aligned store (R74, R78, R194, R196, R355) and the MMIO
aperture (R72, R197, R249). -/

namespace Sys2Proof.Machine

/-! ### Even addresses -/

theorem misaligned_eq_false_of_even {a : Word} (even : a.toNat % 2 = 0) : misaligned a = false := by
  simp [misaligned, BitVec.getLsbD, Nat.testBit_zero, even]

/-- The second byte of an aligned halfword does not wrap: `0xffffffff` is odd. -/
theorem toNat_add_one_of_even {a : Word} (even : a.toNat % 2 = 0) : (a + 1).toNat = a.toNat + 1 := by
  bv_omega

/-! ### Two bytes in memory -/

theorem Memory.writeBytes_pair {a : Word} (even : a.toNat % 2 = 0) (m : Memory) (x y : Byte) :
    m.writeBytes a [x, y] = (m.write a.toNat x).write (a.toNat + 1) y := by
  have first : a + BitVec.ofNat 32 0 = a := BitVec.add_zero a
  have second : (a + BitVec.ofNat 32 1).toNat = a.toNat + 1 := toNat_add_one_of_even even
  simp [Memory.writeBytes, Memory.writeCells, first, second]

theorem Memory.read_writeBytes_pair_fst {a : Word} (even : a.toNat % 2 = 0) (m : Memory) (x y : Byte) :
    (m.writeBytes a [x, y]).read a.toNat = some x := by
  rw [Memory.writeBytes_pair even, Memory.read_write_of_ne _ _ (Nat.ne_of_lt (Nat.lt_succ_self _)),
    Memory.read_write_same]

theorem Memory.read_writeBytes_pair_snd {a : Word} (even : a.toNat % 2 = 0) (m : Memory) (x y : Byte) :
    (m.writeBytes a [x, y]).read (a.toNat + 1) = some y := by
  rw [Memory.writeBytes_pair even, Memory.read_write_same]

theorem Memory.read_writeBytes_pair_of_ne {a : Word} (even : a.toNat % 2 = 0) (m : Memory) (x y : Byte) {c : Nat}
    (ne : c ≠ a.toNat) (ne' : c ≠ a.toNat + 1) : (m.writeBytes a [x, y]).read c = m.read c := by
  rw [Memory.writeBytes_pair even, Memory.read_write_of_ne _ _ ne', Memory.read_write_of_ne _ _ ne]

/-! ### The halfword that is stored -/

theorem State.halfStored_of_disjoint {s : State} {a : Word} (h : ∀ x ∈ s.stored, halvesOverlap a x = false) (v : Word) :
    s.halfStored a v = v.extractLsb' 0 16 :=
  if_neg (by simpa using h)

theorem State.halfStored_of_overlap {s : State} {a : Word} (h : ∃ x ∈ s.stored, halvesOverlap a x = true) (v : Word) :
    s.halfStored a v = Config.contestedHalf s.draws a (v.extractLsb' 0 16) :=
  if_pos (List.any_eq_true.2 h)

theorem State.storeAligned_mem_little {s : State} (o : s.pcsw.bytesex = .little) (a v : Word) :
    (s.storeAligned a v).mem =
      s.mem.writeBytes a [(s.halfStored a v).extractLsb' 0 8, (s.halfStored a v).extractLsb' 8 8] := by
  rw [State.storeAligned_mem, o]; rfl

theorem State.storeAligned_mem_big {s : State} (o : s.pcsw.bytesex = .big) (a v : Word) :
    (s.storeAligned a v).mem =
      s.mem.writeBytes a [(s.halfStored a v).extractLsb' 8 8, (s.halfStored a v).extractLsb' 0 8] := by
  rw [State.storeAligned_mem, o]; rfl

/-- Outside its two bytes an aligned store leaves memory, in either byte order. -/
theorem State.read_storeAligned_of_ne {s : State} {a : Word} (even : a.toNat % 2 = 0) (v : Word) {c : Nat}
    (ne : c ≠ a.toNat) (ne' : c ≠ a.toNat + 1) : (s.storeAligned a v).mem.read c = s.mem.read c := by
  cases o : s.pcsw.bytesex with
  | little => rw [State.storeAligned_mem_little o, Memory.read_writeBytes_pair_of_ne even _ _ _ ne ne']
  | big => rw [State.storeAligned_mem_big o, Memory.read_writeBytes_pair_of_ne even _ _ _ ne ne']

/-! ### The two operations -/

theorem State.storeHalfWhen_of_guard_true {s : State} {g : Option RegNo} (h : s.guardHolds g = true) (a v : Word) :
    s.storeHalfWhen g a v = s.storeHalf a v :=
  if_pos h

theorem State.storeHalf_of_aligned {s : State} {a : Word} (even : a.toNat % 2 = 0) (v : Word) :
    s.storeHalf a v = if halfInMmio s.cfg a then .fault .mmioNon32 else .next (s.storeAligned a v) := by
  simp [State.storeHalf, misaligned_eq_false_of_even even]

theorem exec_st16 (g : Option RegNo) (a b : RegNo) (k : Nat) (s : State) :
    exec (.st16 g a b k) s = s.storeHalfWhen g (s.readReg a) (s.readReg b) := rfl

/-- `st16` is the pseudo operation for `h_st16d(0)` (R116, R358). -/
theorem exec_hSt16d_zero (g : Option RegNo) (a b : RegNo) (k : Nat) (s : State) :
    exec (.hSt16d g a b 0 k) s = exec (.st16 g a b k) s := rfl

theorem exec_st16_of_aligned {g : Option RegNo} {a : RegNo} {s : State} (hg : s.guardHolds g = true)
    (even : (s.readReg a).toNat % 2 = 0) (b : RegNo) (k : Nat) :
    exec (.st16 g a b k) s = if halfInMmio s.cfg (s.readReg a) then .fault .mmioNon32
      else .next (s.storeAligned (s.readReg a) (s.readReg b)) := by
  rw [exec_st16, State.storeHalfWhen_of_guard_true hg, State.storeHalf_of_aligned even]

/-- Settles O40: the misalignment, which would come first, is excluded, and the aperture is looked at next (R249). -/
theorem storeToMmioFaults : Obligations.StoreToMmioFaults := by
  intro g a b k s hg even touches
  have inside : halfInMmio s.cfg (s.readReg a) = true := (Bool.or_eq_true _ _).mpr touches
  have faults : exec (.st16 g a b k) s = .fault .mmioNon32 := by
    rw [exec_st16_of_aligned hg even, if_pos inside]
  exact ⟨faults, (exec_hSt16d_zero g a b k s).trans faults⟩

/-- Settles O38: the next state is `storeAligned`, the halfword `halfStored`. -/
theorem alignedStoreWritesTwoBytes : Obligations.AlignedStoreWritesTwoBytes := by
  intro c g a b k s
  refine ⟨rfl, rfl, rfl, rfl, fun hg => ?_, fun hg even first second => ?_⟩
  · exact ⟨exec_of_guard_false hg rfl rfl, exec_of_guard_false hg rfl rfl⟩
  · have outside : halfInMmio s.cfg (s.readReg a) = false := Bool.or_eq_false_iff.2 ⟨first, second⟩
    have stores : exec (.st16 g a b k) s = .next (s.storeAligned (s.readReg a) (s.readReg b)) := by
      rw [exec_st16_of_aligned hg even, outside, if_neg Bool.false_ne_true]
    refine ⟨_, s.halfStored (s.readReg a) (s.readReg b), stores, (exec_hSt16d_zero g a b k s).trans stores, rfl,
      fun h => State.halfStored_of_disjoint h _, fun h => State.halfStored_of_overlap h _, fun o => ?_, fun o => ?_,
      fun x ne ne' => State.read_storeAligned_of_ne even _ ne ne'⟩
    · rw [State.storeAligned_mem_little o]
      exact ⟨Memory.read_writeBytes_pair_fst even _ _ _, Memory.read_writeBytes_pair_snd even _ _ _⟩
    · rw [State.storeAligned_mem_big o]
      exact ⟨Memory.read_writeBytes_pair_fst even _ _ _, Memory.read_writeBytes_pair_snd even _ _ _⟩

end Sys2Proof.Machine
end

section
/-! PROOFS for 30_encoding.md, records and packed words (R101 to R113, R116, R117; log 17, log 18): a record whose fields
are in range is read back from its packed word, the records of well-formed and of named operations are such records, and
what decodes is the record of its operation. -/

namespace Sys2Proof

/-! ### The fields of a packed number -/

/-- A packed number of 160 bits, as the fields that `OpRecord.pack` places: each is read back at its place. -/
theorem bitField_packed {op b0 b1 b2 b3 b4 slot guard src1 src2 dest modifier w : Nat} (hop : op < 2 ^ 16)
    (h0 : b0 < 2) (h1 : b1 < 2) (h2 : b2 < 2) (h3 : b3 < 2) (h4 : b4 < 2) (hslot : slot < 2 ^ 8)
    (hguard : guard < 2 ^ 16) (hsrc1 : src1 < 2 ^ 16) (hsrc2 : src2 < 2 ^ 16) (hdest : dest < 2 ^ 16)
    (hmodifier : modifier < 2 ^ 64)
    (hw : w = op + 2 ^ 16 * (2 ^ 0 * b0 + 2 ^ 1 * b1 + 2 ^ 2 * b2 + 2 ^ 3 * b3 + 2 ^ 4 * b4) + 2 ^ 24 * slot +
      2 ^ 32 * guard + 2 ^ 48 * src1 + 2 ^ 64 * src2 + 2 ^ 80 * dest + 2 ^ 96 * modifier) :
    w < 2 ^ 160 ∧ bitField w 0 16 = op ∧ bitField w 24 8 = slot ∧
      (bitField w (16 + 0) 1 = b0 ∧ bitField w (16 + 1) 1 = b1 ∧ bitField w (16 + 2) 1 = b2 ∧
        bitField w (16 + 3) 1 = b3 ∧ bitField w (16 + 4) 1 = b4) ∧
      bitField w 32 16 = guard ∧ bitField w 48 16 = src1 ∧ bitField w 64 16 = src2 ∧ bitField w 80 16 = dest ∧
      bitField w 96 64 = modifier := by
  simp only [bitField, Nat.reducePow, Nat.reduceAdd] at *
  refine ⟨?_, ?_, ?_, ⟨?_, ?_, ?_, ?_, ?_⟩, ?_, ?_, ?_, ?_, ?_⟩ <;> omega

theorem presenceBit_eq (k : Nat) (b : Bool) : presenceBit k b = 2 ^ k * b.toNat := by
  cases b <;> simp [presenceBit]

/-- An optional field is read back from its presence bit and its value, 0 where it is absent. -/
theorem optionalField_eq {w k v : Nat} {o : Option Nat} (bit : bitField w (16 + k) 1 = o.isSome.toNat)
    (value : v = o.getD 0) : optionalField w k v = o := by
  cases o <;> simp [optionalField, bit, value]

theorem getD_zero_lt {o : Option Nat} {b : Nat} (pos : 0 < b) (h : ∀ x, o = some x → x < b) : o.getD 0 < b := by
  cases o with
  | none => exact pos
  | some x => exact h x rfl

/-! ### The operation field -/

/-- The operation field is read back where it holds a code below 256, or the number of a textual operation. -/
theorem OpName.ofField_toField {o : OpName} (h : ∀ n, o = .code n → n < 256) : OpName.ofField o.toField = o := by
  cases o with
  | code n => exact if_pos (h n rfl)
  | textual m => cases m <;> rfl

theorem OpName.toField_lt {o : OpName} (h : ∀ n, o = .code n → n < 256) : o.toField < 2 ^ 16 := by
  cases o with
  | code n => exact (h n rfl).trans (by decide)
  | textual m => cases m <;> decide

/-! ### The modifier field -/

/-- A modifier is read back from its 64 bits of two's complement. -/
theorem toInt_ofNat_modifier {m : Int} (ge : -2 ^ 63 ≤ m) (lt : m < 2 ^ 63) :
    (BitVec.ofNat 64 (BitVec.ofInt 64 m).toNat).toInt = m := by
  rw [BitVec.ofNat_toNat, BitVec.setWidth_eq, BitVec.toInt_ofInt_eq_self (by decide) ge lt]

theorem modifierField_eq (m : Option Int) : modifierField m = (m.map fun d => (BitVec.ofInt 64 d).toNat).getD 0 := by
  cases m <;> rfl

/-! ### The record that a packed record stands for -/

/-- Every field of the record is in the range that its place in a packed record holds. -/
structure OpRecord.Packable (r : OpRecord) : Prop where
  op : ∀ n, r.op = .code n → n < 256
  slot : r.slot < 2 ^ 8
  guard : ∀ g, r.guard = some g → g < 2 ^ 16
  src1 : ∀ a, r.src1 = some a → a < 2 ^ 16
  src2 : ∀ b, r.src2 = some b → b < 2 ^ 16
  dest : ∀ d, r.dest = some d → d < 2 ^ 16
  modifier : ∀ m, r.modifier = some m → -2 ^ 63 ≤ m ∧ m < 2 ^ 63

theorem OpRecord.Packable.modifier_eq {r : OpRecord} (h : r.Packable) :
    (r.modifier.map fun d => (BitVec.ofInt 64 d).toNat).map (fun n => (BitVec.ofNat 64 n).toInt) = r.modifier := by
  cases hm : r.modifier with
  | none => rfl
  | some m =>
    obtain ⟨ge, lt⟩ := h.modifier m hm
    exact congrArg some (toInt_ofNat_modifier ge lt)

/-- Packing loses nothing of a record whose fields are in range. -/
theorem OpRecord.Packable.recordOfWord_pack {r : OpRecord} (h : r.Packable) : recordOfWord recordBits r.pack = r := by
  obtain ⟨fits, op, slot, ⟨hasGuard, hasSrc1, hasSrc2, hasDest, hasModifier⟩, guard, src1, src2, dest, modifier⟩ :=
    bitField_packed (OpName.toField_lt h.op) (Bool.toNat_lt r.guard.isSome) (Bool.toNat_lt r.src1.isSome)
      (Bool.toNat_lt r.src2.isSome) (Bool.toNat_lt r.dest.isSome) (Bool.toNat_lt r.modifier.isSome) h.slot
      (getD_zero_lt (by decide) h.guard) (getD_zero_lt (by decide) h.src1) (getD_zero_lt (by decide) h.src2)
      (getD_zero_lt (by decide) h.dest) (BitVec.ofInt 64 (r.modifier.getD 0)).isLt (w := r.pack)
      (by simp only [OpRecord.pack, OpRecord.presence, presenceBit_eq, modifierField])
  have hmodifier : optionalField r.pack 4 (bitField r.pack 96 64) =
      r.modifier.map fun d => (BitVec.ofInt 64 d).toNat :=
    optionalField_eq (by rw [hasModifier, Option.isSome_map]) (modifier.trans (modifierField_eq _))
  rw [recordOfWord, recordBits, Nat.mod_eq_of_lt fits, OpRecord.unpack, op, OpName.ofField_toField h.op,
    optionalField_eq hasGuard guard, optionalField_eq hasSrc1 src1, optionalField_eq hasSrc2 src2,
    optionalField_eq hasDest dest, hmodifier, h.modifier_eq, slot]

/-! ### The record of an operation -/

theorem encode_slot (i : Instr) : (encode i).slot = i.slot := by
  cases i <;> rfl

theorem encode_guard (i : Instr) : (encode i).guard = i.guard := by
  cases i <;> rfl

theorem encode_dest (i : Instr) : (encode i).dest = i.dest := by
  cases i <;> rfl

/-- The source fields of a record are source registers of its operation. -/
theorem mem_sources_of_encode_src1 {i : Instr} {a : RegNo} (h : (encode i).src1 = some a) : a ∈ i.sources := by
  cases i <;> cases h <;> exact List.mem_cons_self

theorem mem_sources_of_encode_src2 {i : Instr} {b : RegNo} (h : (encode i).src2 = some b) : b ∈ i.sources := by
  cases i <;> cases h <;> exact List.mem_cons_of_mem _ List.mem_cons_self

/-- The codes of R112 are below 256. -/
theorem encode_code_lt {i : Instr} {n : Nat} (h : (encode i).op = .code n) : n < 256 := by
  cases i <;> cases h <;> decide

/-- A modifier in range (R109, R110), and the displacement 0 of `h_st16d` (R198), fit in 64 bits. -/
theorem encode_modifier_bounds {i : Instr} {m : Int} (inRange : i.modifierOk = true)
    (displacement : i.displacementOk = true) (h : (encode i).modifier = some m) : -2 ^ 63 ≤ m ∧ m < 2 ^ 63 := by
  cases i with
  | hSt16d g a b d k =>
    cases h
    have zero : m = 0 := beq_iff_eq.1 displacement
    omega
  | prefd g a d k =>
    cases h
    simp only [Instr.modifierOk, Bool.and_eq_true, decide_eq_true_eq] at inRange
    omega
  | uimm n d k =>
    cases h
    simp only [Instr.modifierOk, decide_eq_true_eq] at inRange
    omega
  | _ => cases h

/-- The decoder gives back what the encoder writes; of a `uimm` it looks at the sign of the modifier. -/
theorem decode_encode (i : Instr) : decode (encode i) = .ok i := by
  cases i with
  | uimm n d k => simp [encode, decode, decodeUimm]
  | _ => rfl

/-- Settles O1. -/
theorem recordsDecodeToTheirOperation : Obligations.RecordsDecodeToTheirOperation := decode_encode

/-! ### Operations whose record can be packed -/

/-- What of R119 keeps the fields of a record in range. -/
structure Instr.FieldsOk (n : Nat) (i : Instr) : Prop where
  slot_le : i.slot ≤ 5
  registers : i.registersOk n = true
  modifier : i.modifierOk = true
  displacement : i.displacementOk = true

theorem Instr.slot_le_of_slotOk {c : Config} {i : Instr} (h : i.slotOk c = true) : i.slot ≤ 5 := by
  unfold Instr.slotOk at h
  split at h
  · simp only [Bool.and_eq_true, decide_eq_true_eq] at h
    exact h.2
  · cases h

theorem Instr.fieldsOk_of_wf {c : Config} {n : Nat} {i : Instr} (h : i.wf c n = true) : i.FieldsOk n := by
  simp only [Instr.wf, Instr.formOk, Bool.and_eq_true] at h
  obtain ⟨⟨⟨⟨⟨slot, registers⟩, -⟩, modifier⟩, -⟩, displacement⟩ := h
  exact ⟨Instr.slot_le_of_slotOk slot, registers, modifier, displacement⟩

/-- An operation that is only named has no field but its slot. -/
theorem Instr.fieldsOk_of_namedOnly {i : Instr} (named : i.namedOnly.isSome = true) (slot : i.slot ≤ 5) (n : Nat) :
    i.FieldsOk n := by
  cases i with
  | hSt16d | st16 | carry | mergemsb | ume8ii | hDspiabs | dspiabs | ifixieee | cycles | uimm | prefd | quadavg
  | dspuquadaddui => cases named
  | _ => exact ⟨slot, rfl, rfl, rfl⟩

theorem Instr.registersOk_iff {n : Nat} {i : Instr} : i.registersOk n = true ↔
    (∀ g, i.guard = some g → g < n) ∧ (∀ a ∈ i.sources, a < n) ∧ ∀ d, i.dest = some d → d < n := by
  simp [Instr.registersOk, Option.all_eq_true, and_assoc]

theorem Instr.FieldsOk.packable {n : Nat} {i : Instr} (h : i.FieldsOk n) (hn : n ≤ 2 ^ 16) : (encode i).Packable := by
  obtain ⟨guard, sources, dest⟩ := Instr.registersOk_iff.1 h.registers
  refine ⟨fun _ => encode_code_lt, ?_, fun g hg => ?_, fun a ha => ?_, fun b hb => ?_, fun d hd => ?_,
    fun m => encode_modifier_bounds h.modifier h.displacement⟩
  · rw [encode_slot]
    exact h.slot_le.trans_lt (by decide)
  · exact (guard g (encode_guard i ▸ hg)).trans_le hn
  · exact (sources a (mem_sources_of_encode_src1 ha)).trans_le hn
  · exact (sources b (mem_sources_of_encode_src2 hb)).trans_le hn
  · exact (dest d (encode_dest i ▸ hd)).trans_le hn

theorem decodeTableWord_encodeWord {n : Nat} {i : Instr} (h : i.FieldsOk n) (hn : n ≤ 2 ^ 16) :
    decodeTableWord recordBits (encodeWord i) = some i := by
  rw [decodeTableWord, encodeWord, (h.packable hn).recordOfWord_pack, decode_encode]

/-- Settles O2. -/
theorem packedWordsDecodeToTheirOperation : Obligations.PackedWordsDecodeToTheirOperation := by
  rintro c n i hn (wf | ⟨named, slot⟩)
  · exact decodeTableWord_encodeWord (Instr.fieldsOk_of_wf wf) hn
  · exact decodeTableWord_encodeWord (Instr.fieldsOk_of_namedOnly named slot n) hn

/-- A word that is the packed word of an operation that is well-formed after reset decodes to it. -/
theorem decodeTableWord_of_eq_encodeWord {w : Nat} {i : Instr} (hw : w = encodeWord i)
    (wf : i.wf Machine.resetConfig 128 = true) : decodeTableWord 160 w = some i := by
  rw [hw]
  exact decodeTableWord_encodeWord (Instr.fieldsOk_of_wf wf) (by decide)

/-- Settles O5: each word is the packed word of its operation. -/
theorem writtenWordsDecode : Obligations.WrittenWordsDecode :=
  ⟨decodeTableWord_of_eq_encodeWord (by decide) (by decide), decodeTableWord_of_eq_encodeWord (by decide) (by decide),
    decodeTableWord_of_eq_encodeWord (by decide) (by decide), decodeTableWord_of_eq_encodeWord (by decide) (by decide)⟩

/-! ### What decodes is the record of its operation

One lemma per form: the fields that the form looks at are those of the record written for its operation. -/

section
variable {guard src1 src2 dest : Option RegNo} {modifier : Option Int} {slot : Nat} {i : Instr}

theorem encode_of_decodeG2D {mk : Option RegNo → RegNo → RegNo → RegNo → Nat → Instr} {op : OpName}
    (form : ∀ g a b d k, encode (mk g a b d k) = ⟨op, g, some a, some b, some d, none, k⟩)
    (h : decodeG2D mk ⟨op, guard, src1, src2, dest, modifier, slot⟩ = .ok i) :
    encode i = ⟨op, guard, src1, src2, dest, modifier, slot⟩ := by
  dsimp only [decodeG2D] at h
  split at h <;> cases h
  exact form ..

theorem encode_of_decodeDspiabs
    (h : decodeDspiabs ⟨.textual .dspiabs, guard, src1, src2, dest, modifier, slot⟩ = .ok i) :
    encode i = ⟨.textual .dspiabs, guard, src1, src2, dest, modifier, slot⟩ := by
  dsimp only [decodeDspiabs] at h
  split at h <;> cases h
  rfl

theorem encode_of_decodeSt16 (h : decodeSt16 ⟨.code 30, guard, src1, src2, dest, modifier, slot⟩ = .ok i) :
    encode i = ⟨.code 30, guard, src1, src2, dest, modifier, slot⟩ := by
  dsimp only [decodeSt16] at h
  split at h <;> cases h
  · rfl
  · rfl

theorem encode_of_decodeIfixieee (h : decodeIfixieee ⟨.code 121, guard, src1, src2, dest, modifier, slot⟩ = .ok i) :
    encode i = ⟨.code 121, guard, src1, src2, dest, modifier, slot⟩ := by
  dsimp only [decodeIfixieee] at h
  split at h <;> cases h
  rfl

theorem encode_of_decodeCycles (h : decodeCycles ⟨.code 154, guard, src1, src2, dest, modifier, slot⟩ = .ok i) :
    encode i = ⟨.code 154, guard, src1, src2, dest, modifier, slot⟩ := by
  dsimp only [decodeCycles] at h
  split at h <;> cases h
  rfl

/-- The modifier of a `uimm` is unsigned, so that it is the number the operation holds (R110). -/
theorem encode_of_decodeUimm (h : decodeUimm ⟨.code 191, guard, src1, src2, dest, modifier, slot⟩ = .ok i) :
    encode i = ⟨.code 191, guard, src1, src2, dest, modifier, slot⟩ := by
  dsimp only [decodeUimm] at h
  split at h
  · split at h <;> cases h
    rename_i nonneg
    rw [encode, Int.toNat_of_nonneg nonneg]
  · cases h

theorem encode_of_decodePrefd (h : decodePrefd ⟨.code 209, guard, src1, src2, dest, modifier, slot⟩ = .ok i) :
    encode i = ⟨.code 209, guard, src1, src2, dest, modifier, slot⟩ := by
  dsimp only [decodePrefd] at h
  split at h <;> cases h
  rfl

/-- A record by its name has a form (R155, R157, log 18), or its operation is only named and its fields are not looked
at. -/
theorem decodeTextual_eq_ok {m : TextualOp}
    (h : decodeTextual m ⟨.textual m, guard, src1, src2, dest, modifier, slot⟩ = .ok i) :
    encode i = ⟨.textual m, guard, src1, src2, dest, modifier, slot⟩ ∨ i.namedOnly = some m := by
  cases m with
  | quadavg | dspuquadaddui => exact .inl (encode_of_decodeG2D (fun _ _ _ _ _ => rfl) h)
  | dspiabs => exact .inl (encode_of_decodeDspiabs h)
  | _ => cases h; exact .inr rfl

end

/-- The inversion of the decoder: what decodes is the record written for its operation, or names one that is only named. -/
theorem decode_eq_ok {r : OpRecord} {i : Instr} (h : decode r = .ok i) :
    encode i = r ∨ ∃ m, r.op = .textual m ∧ i.namedOnly = some m := by
  obtain ⟨op, guard, src1, src2, dest, modifier, slot⟩ := r
  dsimp only [decode] at h
  split at h
  · exact .inl (encode_of_decodeSt16 h)
  · exact .inl (encode_of_decodeG2D (fun _ _ _ _ _ => rfl) h)
  · exact .inl (encode_of_decodeG2D (fun _ _ _ _ _ => rfl) h)
  · exact .inl (encode_of_decodeG2D (fun _ _ _ _ _ => rfl) h)
  · exact .inl (encode_of_decodeG2D (fun _ _ _ _ _ => rfl) h)
  · exact .inl (encode_of_decodeIfixieee h)
  · exact .inl (encode_of_decodeCycles h)
  · exact .inl (encode_of_decodeUimm h)
  · exact .inl (encode_of_decodePrefd h)
  · cases h
  · exact (decodeTextual_eq_ok h).imp_right fun named => ⟨_, rfl, named⟩

/-- Settles O3. -/
theorem recordsHaveOneMeaning : Obligations.RecordsHaveOneMeaning := by
  intro r i h form
  rcases decode_eq_ok h with same | ⟨m, -, named⟩
  · exact same
  · rw [form] at named
    cases named

/-- The code in the record of an operation is the one its ATTRIBUTES carry (R112). -/
theorem attributes_of_encode_code {i : Instr} {n : Nat} (h : (encode i).op = .code n) (c : Config) :
    ∃ a, i.attributes c = some a ∧ a.code = some n := by
  cases i <;> cases h <;> exact ⟨_, rfl, rfl⟩

/-- Settles O4: a record with a code is the record of its operation. -/
theorem operationCodeSelectsTheOperation : Obligations.OperationCodeSelectsTheOperation := by
  intro c r n i op h
  rcases decode_eq_ok h with rfl | ⟨m, textual, -⟩
  · exact attributes_of_encode_code op c
  · rw [op] at textual
    cases textual

/-! ### The scheduler -/

/-- Settles O6: a pseudo operation has the effect of the operation it is rewritten to, and every other operation stays. -/
theorem schedulingKeepsTheEffect : Obligations.SchedulingKeepsTheEffect := by
  intro c i s
  cases i with
  | st16 g a b k => exact ⟨Machine.exec_hSt16d_zero g a b k s, rfl, rfl, rfl, rfl, by rintro _ _ _ _ ⟨⟩; rfl, nofun⟩
  | dspiabs g b d k => exact ⟨rfl, rfl, rfl, rfl, rfl, nofun, by rintro _ _ _ _ ⟨⟩; rfl⟩
  | _ => exact ⟨rfl, rfl, rfl, rfl, rfl, nofun, nofun⟩

end Sys2Proof
end

section
/-! PROOFS for the checks of an instruction (30_encoding.md R113, R119; 70_reset_and_hazards.md R352, R362): which
instructions are refused and which are admitted, and what the admitted ones issue. -/

namespace Sys2Proof.Machine

/-! ### The records of an instruction and their operations -/

theorem rejectedFor_iff {e : Reject} {r : OpRecord} : rejectedFor e r = true ↔ decode r = .error e := by
  unfold rejectedFor
  cases decode r <;> simp

theorem toOption_decode_eq_some {r : OpRecord} {i : Instr} : (decode r).toOption = some i ↔ decode r = .ok i := by
  cases decode r <;> simp [Except.toOption]

/-- A record that decodes is no record that is rejected. -/
theorem decode_ne_error {recs : List OpRecord} (decodes : ∀ r ∈ recs, ∃ i, decode r = .ok i) (e : Reject) :
    ∀ r ∈ recs, decode r ≠ .error e := by
  intro r hr rejected
  obtain ⟨i, hi⟩ := decodes r hr
  rw [hi] at rejected
  cases rejected

theorem length_operationsOf {recs : List OpRecord} (decodes : ∀ r ∈ recs, ∃ i, decode r = .ok i) :
    (operationsOf recs).length = recs.length := by
  rw [operationsOf, List.length_insertionSort, List.filterMap_length_eq_length]
  intro r hr
  obtain ⟨i, hi⟩ := decodes r hr
  rw [toOption_decode_eq_some.2 hi]
  rfl

/-- Sorting by slot is no matter for the slots being distinct. -/
theorem slotsDistinct_operationsOf {recs : List OpRecord} : slotsDistinct (operationsOf recs) = true ↔
    recs.Pairwise fun r q => ∀ i j, decode r = .ok i → decode q = .ok j → i.slot ≠ j.slot := by
  have sorted := (List.perm_insertionSort (fun i j : Instr => i.slot ≤ j.slot)
    (recs.filterMap fun r => (decode r).toOption)).map Instr.slot
  rw [slotsDistinct, decide_eq_true_eq, operationsOf, sorted.nodup_iff, List.Nodup, List.pairwise_map,
    List.pairwise_filterMap]
  simp only [toOption_decode_eq_some]
  exact List.Pairwise.iff fun r q => ⟨fun h i j hi hj => h i hi j hj, fun h i hi j hj => h i j hi hj⟩

/-! ### Which check of form an instruction fails (R362) -/

section
variable {c : Config} {n : Nat} {recs : List OpRecord}

theorem checkInstruction_of_unknown (h : ∃ r ∈ recs, decode r = .error .unknownOperation) :
    checkInstruction c n recs = .error .unknownOperation := by
  have unknown : recs.any (rejectedFor .unknownOperation) = true := by
    simpa only [List.any_eq_true, rejectedFor_iff] using h
  simp [checkInstruction, unknown]

theorem any_rejectedFor_eq_false {e : Reject} (h : ∀ r ∈ recs, decode r ≠ .error e) :
    recs.any (rejectedFor e) = false := by
  rw [List.any_eq_false]
  exact fun r hr rejected => h r hr (rejectedFor_iff.1 rejected)

theorem checkInstruction_of_namedOnly (known : ∀ r ∈ recs, decode r ≠ .error .unknownOperation) {m : TextualOp}
    (named : (operationsOf recs).findSome? Instr.namedOnly = some m) :
    checkInstruction c n recs = .error (.unspecifiedOperation m) := by
  simp [checkInstruction, any_rejectedFor_eq_false known, named]

/-- The defects of form beside those of one operation (`checkInstruction_of_not_formOk`). -/
theorem checkInstruction_of_defect (known : ∀ r ∈ recs, decode r ≠ .error .unknownOperation)
    (named : ∀ i ∈ operationsOf recs, i.namedOnly = none)
    (defect : (∃ r ∈ recs, decode r = .error .illFormed) ∨ 5 < recs.length ∨
      slotsDistinct (operationsOf recs) = false) :
    checkInstruction c n recs = .error .illFormed := by
  have named' : (operationsOf recs).findSome? Instr.namedOnly = none := List.findSome?_eq_none_iff.2 named
  have fails :
      (recs.any (rejectedFor .illFormed) || !(recs.length ≤ 5) || !slotsDistinct (operationsOf recs)) = true := by
    simpa only [Bool.or_eq_true, List.any_eq_true, rejectedFor_iff, Bool.not_eq_true', decide_eq_false_iff_not, not_le,
      or_assoc] using defect
  simp [checkInstruction, any_rejectedFor_eq_false known, named', fails]

/-- An operation that is only named has no slot list, so it passes no check of form. -/
theorem Instr.namedOnly_of_formOk {i : Instr} (h : i.formOk c n = true) : i.namedOnly = none := by
  simp only [Instr.formOk, Bool.and_eq_true] at h
  obtain ⟨⟨⟨slot, -⟩, -⟩, -⟩ := h
  cases i with
  | hSt16d | st16 | carry | mergemsb | ume8ii | hDspiabs | dspiabs | ifixieee | cycles | uimm | prefd | quadavg
  | dspuquadaddui => rfl
  | _ => cases slot

theorem Instr.wf_iff {i : Instr} :
    i.wf c n = true ↔ i.formOk c n = true ∧ i.firstArgumentOk = true ∧ i.displacementOk = true := by
  simp only [Instr.wf, Bool.and_eq_true, and_assoc]

theorem lateRefusal_of_wf {i : Instr} (h : i.wf c n = true) : lateRefusal i = none := by
  obtain ⟨-, first, displacement⟩ := Instr.wf_iff.1 h
  simp [lateRefusal, first, displacement]

theorem instructionWf_iff {ops : List Instr} : instructionWf c n ops = true ↔
    ops.length ≤ 5 ∧ slotsDistinct ops = true ∧ ∀ i ∈ ops, i.wf c n = true := by
  simp only [instructionWf, Bool.and_eq_true, decide_eq_true_eq, List.all_eq_true, and_assoc]

/-- A well-formed instruction is admitted. -/
theorem checkInstruction_of_wf (decodes : ∀ r ∈ recs, ∃ i, decode r = .ok i)
    (wf : instructionWf c n (operationsOf recs) = true) : checkInstruction c n recs = .ok (operationsOf recs) := by
  obtain ⟨length, slots, ops⟩ := instructionWf_iff.1 wf
  rw [length_operationsOf decodes] at length
  have form : ∀ i ∈ operationsOf recs, i.formOk c n = true := fun i hi => (Instr.wf_iff.1 (ops i hi)).1
  have named : (operationsOf recs).findSome? Instr.namedOnly = none :=
    List.findSome?_eq_none_iff.2 fun i hi => Instr.namedOnly_of_formOk (form i hi)
  have late : (operationsOf recs).findSome? lateRefusal = none :=
    List.findSome?_eq_none_iff.2 fun i hi => lateRefusal_of_wf (ops i hi)
  simp [checkInstruction, any_rejectedFor_eq_false (decode_ne_error decodes _), named, length, slots,
    List.all_eq_true.2 form, late]

end

/-! ### Refused instructions -/

/-- A code outside the nine of R112 selects no operation, whatever the other fields are (R113). -/
theorem decode_of_unlisted_code {r : OpRecord} {n : Nat} (op : r.op = .code n)
    (unlisted : n ∉ [30, 45, 58, 64, 65, 121, 154, 191, 209]) : decode r = .error .unknownOperation := by
  unfold decode
  split <;> simp_all

/-- Settles O11. -/
theorem unknownOperationCodesAreRefused : Obligations.UnknownOperationCodesAreRefused := by
  intro s recs r n turn hf hr op unlisted
  rw [step_of_fetch turn hf, executeInstruction_of_error
    (checkInstruction_of_unknown ⟨r, hr, decode_of_unlisted_code op unlisted⟩)]

/-- Settles O15: the operation named is the first in slot order. -/
theorem stepRefusesNamedOnlyOperations : Obligations.StepRefusesNamedOnlyOperations := by
  rintro s recs turn hf known ⟨r, hr, i, hd, named⟩
  obtain ⟨m, hm⟩ := Option.isSome_iff_exists.1
    (List.findSome?_isSome_iff.2 ⟨i, mem_operationsOf.2 ⟨r, hr, hd⟩, named⟩)
  obtain ⟨j, hj, hjm⟩ := List.exists_of_findSome?_eq_some hm
  obtain ⟨q, hq, hdj⟩ := mem_operationsOf.1 hj
  refine ⟨m, ?_, q, hq, j, hdj, hjm⟩
  rw [step_of_fetch turn hf, executeInstruction_of_error (checkInstruction_of_namedOnly known hm)]

/-- Settles O12, by the kinds of defect. -/
theorem illFormedInstructionsAreRefused : Obligations.IllFormedInstructionsAreRefused := by
  intro s recs turn hf named known defect
  have named' : ∀ j ∈ operationsOf recs, j.namedOnly = none := by
    intro j hj
    obtain ⟨q, hq, hdj⟩ := mem_operationsOf.1 hj
    exact named q hq j hdj
  have refused : checkInstruction s.cfg s.nRegs recs = .error .illFormed := by
    rcases defect with ⟨r, hr, rejected | ⟨i, hd, bad⟩⟩ | many | twice
    · exact checkInstruction_of_defect known named' (.inl ⟨r, hr, rejected⟩)
    · exact checkInstruction_of_not_formOk known named' (mem_operationsOf.2 ⟨r, hr, hd⟩) bad
    · exact checkInstruction_of_defect known named' (.inr (.inl many))
    · rw [← slotsDistinct_operationsOf, Bool.not_eq_true] at twice
      exact checkInstruction_of_defect known named' (.inr (.inr twice))
  rw [step_of_fetch turn hf, executeInstruction_of_error refused]

/-! ### Admitted instructions -/

theorem executeInstruction_of_ok {recs : List OpRecord} {ops : List Instr} {s : State}
    (h : checkInstruction s.cfg s.nRegs recs = .ok ops) :
    executeInstruction recs s = andThen (execOperations ops (s.prepare ops)) fun t => .next t.advance := by
  simp [executeInstruction, h]

theorem State.firstBreach_nil (s : State) : s.firstBreach [] = none := rfl

theorem step_of_empty {s : State} (turn : s.onTurn) (hf : s.fetch = some []) :
    step s = .next (s.prepare []).advance := by
  rw [step_of_fetch turn hf, executeInstruction_of_ok (checkInstruction_of_wf (recs := []) (by simp) rfl)]
  rfl

/-- Settles O10: the step is steps 1 and 6 of R352. -/
theorem emptyInstructionDoesNothing : Obligations.EmptyInstructionDoesNothing := by
  intro s turn hf
  refine ⟨_, step_of_empty turn hf, ?_, rfl, rfl, rfl, ?_, ?_, ?_, ?_⟩
  · rw [State.advance_ip, State.prepare_ip]
  · rw [State.advance_mem, State.prepare_mem]
  · rw [State.advance_excPending, State.prepare_excPending]
  · rw [State.advance_cccountSlave, State.prepare_cccountSlave]
  · simp [State.prepare_breach, State.firstBreach_nil]

/-! ### The outcomes of a well-formed operation -/

theorem Instr.exists_attributes {i : Instr} (h : i.namedOnly = none) (c : Config) : ∃ a, i.attributes c = some a := by
  cases i with
  | hSt16d | st16 | carry | mergemsb | ume8ii | hDspiabs | dspiabs | ifixieee | cycles | uimm | prefd | quadavg
  | dspuquadaddui => exact ⟨_, rfl⟩
  | _ => cases h

/-- The value and the flags that an operation with a destination computes. -/
def State.resultOf (s : State) : Instr → Word × FpFlags
  | .carry _ a b _ _ => (carryValue (s.readReg a) (s.readReg b), noFlags)
  | .mergemsb _ a b _ _ => (mergemsbValue (s.readReg a) (s.readReg b), noFlags)
  | .ume8ii _ a b _ _ => (ume8iiValue (s.readReg a) (s.readReg b), noFlags)
  | .hDspiabs _ _ b _ _ | .dspiabs _ b _ _ => (dspiabsValue (s.readReg b), noFlags)
  | .ifixieee _ a _ _ => ifixieeeResult s.pcsw.rm (s.readReg a)
  | .cycles _ _ _ => (s.cccountSlave.extractLsb' 0 32, noFlags)
  | .uimm n _ _ => (BitVec.ofNat 32 n, noFlags)
  | .quadavg _ a b _ _ => (quadavgValue (s.readReg a) (s.readReg b), noFlags)
  | .dspuquadaddui _ a b _ _ => (dspuquadadduiValue (s.readReg a) (s.readReg b), noFlags)
  | _ => (0, noFlags)

/-- An operation with a destination issues its result under a true guard, and does nothing else (R352 step 5 e). -/
theorem exec_of_dest {i : Instr} {s : State} {d : RegNo} {a : Attributes} (hd : i.dest = some d)
    (ha : i.attributes s.cfg = some a) (first : i.firstArgumentOk = true) :
    exec i s = s.issueWhen i.guard d a (s.resultOf i).1 (s.resultOf i).2 := by
  cases i with
  | hDspiabs =>
    cases hd
    cases ha
    exact if_pos (beq_iff_eq.1 first)
  | carry | mergemsb | ume8ii | dspiabs | ifixieee | cycles | uimm | quadavg | dspuquadaddui =>
    cases hd
    cases ha
    rfl
  | _ => cases hd

theorem State.storeHalfWhen_outcome (s : State) (g : Option RegNo) (a v : Word) :
    (∃ t, s.storeHalfWhen g a v = .next t) ∨ s.storeHalfWhen g a v = .fault .mmioNon32 := by
  unfold State.storeHalfWhen State.storeHalf
  split
  · split
    · exact .inl ⟨_, rfl⟩
    · split
      · exact .inr rfl
      · exact .inl ⟨_, rfl⟩
  · exact .inl ⟨_, rfl⟩

/-- A well-formed operation is never refused, and the only fault is that of a store into the MMIO aperture (R197). -/
theorem exec_of_wf {c : Config} {n : Nat} {i : Instr} (h : i.wf c n = true) (s : State) :
    (∃ t, exec i s = .next t) ∨ exec i s = .fault .mmioNon32 := by
  obtain ⟨form, first, displacement⟩ := Instr.wf_iff.1 h
  obtain ⟨a, ha⟩ := Instr.exists_attributes (Instr.namedOnly_of_formOk form) s.cfg
  cases hd : i.dest with
  | some d => exact .inl ⟨_, exec_of_dest hd ha first⟩
  | none =>
    cases i with
    | hSt16d g a b d k =>
      cases beq_iff_eq.1 displacement
      exact s.storeHalfWhen_outcome g (s.readReg a) (s.readReg b)
    | st16 g a b k => exact s.storeHalfWhen_outcome g (s.readReg a) (s.readReg b)
    | prefd => exact .inl ⟨_, rfl⟩
    | carry | mergemsb | ume8ii | hDspiabs | dspiabs | ifixieee | cycles | uimm | quadavg | dspuquadaddui => cases hd
    | _ => cases ha

theorem execOperations_of_wf {c : Config} {n : Nat} {ops : List Instr} (h : ∀ i ∈ ops, i.wf c n = true) (s : State) :
    (∃ t, execOperations ops s = .next t) ∨ execOperations ops s = .fault .mmioNon32 := by
  induction ops generalizing s with
  | nil => exact .inl ⟨s, rfl⟩
  | cons i rest ih =>
    rcases exec_of_wf (h i List.mem_cons_self) s with ⟨t, ht⟩ | fault
    · simpa [execOperations, execOperation, ht] using ih (fun j hj => h j (List.mem_cons_of_mem i hj)) _
    · exact .inr (by simp [execOperations, execOperation, fault])

/-! ### What an operation issues -/

/-- An operation without a destination issues nothing, whatever its outcome. -/
theorem State.issuedBy_of_no_dest (s : State) {i : Instr} (hd : i.dest = none) : s.issuedBy i = [] := by
  unfold State.issuedBy
  split
  · rename_i t ht
    cases exec_effect ht with
    | issues d a v f hd' => rw [hd] at hd'; cases hd'
    | nothing | storesAligned | storesMisaligned => exact List.drop_length
  · rfl

/-- With no other result for its destination in flight, an operation issues its result's record under a true
guard. -/
theorem State.issuedBy_of_dest {s : State} {i : Instr} {d : RegNo} {a : Attributes} (hd : i.dest = some d)
    (ha : i.attributes s.cfg = some a) (first : i.firstArgumentOk = true)
    (free : s.guardHolds i.guard = true → s.inFlight d = false) : s.issuedBy i =
      if s.guardHolds i.guard then [s.resultRecord d a.resultLatency (s.resultOf i).1 (s.resultOf i).2] else [] := by
  rw [State.issuedBy, exec_of_dest hd ha first]
  cases hg : s.guardHolds i.guard with
  | true => simp [State.issueWhen, hg, State.issue_pending_of_free (free hg)]
  | false => simp [State.issueWhen, hg]

/-- The destination of an operation with a true guard has no result in flight. -/
abbrev State.DestFree (s : State) (i : Instr) : Prop :=
  s.guardHolds i.guard = true → ∀ d, i.dest = some d → s.inFlight d = false

theorem State.mem_issuedBy {s : State} {i : Instr} {c : Config} {n : Nat} (wf : i.wf c n = true) (free : s.DestFree i)
    {p : InFlight} (hp : p ∈ s.issuedBy i) :
    s.guardHolds i.guard = true ∧ i.dest = some p.dest ∧ p.issued = s.ip := by
  obtain ⟨form, first, -⟩ := Instr.wf_iff.1 wf
  obtain ⟨a, ha⟩ := Instr.exists_attributes (Instr.namedOnly_of_formOk form) s.cfg
  cases hd : i.dest with
  | none => rw [s.issuedBy_of_no_dest hd] at hp; cases hp
  | some d =>
    rw [State.issuedBy_of_dest hd ha first fun hg => free hg d hd] at hp
    split at hp
    · rename_i hg
      rw [List.mem_singleton.1 hp]
      exact ⟨hg, rfl, rfl⟩
    · cases hp

/-- An operation adds what it issues to the results in flight. -/
theorem pending_of_exec {s t : State} {i : Instr} (free : s.DestFree i) (h : exec i s = .next t) :
    t.pending = s.pending ++ s.issuedBy i := by
  have issued : s.issuedBy i = t.pending.drop s.pending.length := by rw [State.issuedBy, h]
  rw [issued]
  cases exec_effect h with
  | nothing | storesAligned | storesMisaligned => simp
  | issues d a v f hd ha hl hg => simp [State.issue_pending_of_free (free hg d hd)]

/-! ### The operations of an instruction do not see one another's results -/

/-- `u` is `s` after operations of the same instruction that have issued `results`: what of `s` the value of a result can
depend on is as it was, and nothing else is in flight. -/
structure State.IssuedSince (s u : State) (results : List InFlight) : Prop where
  cfg : u.cfg = s.cfg
  ip : u.ip = s.ip
  regs : u.regs = s.regs
  rm : u.pcsw.rm = s.pcsw.rm
  cccountSlave : u.cccountSlave = s.cccountSlave
  pending : u.pending = s.pending ++ results
  issued : ∀ p ∈ results, p.issued = s.ip

section
variable {s u : State} {results : List InFlight} {i : Instr}

theorem State.IssuedSince.prepare (s : State) (ops : List Instr) : s.commit.IssuedSince (s.prepare ops) [] :=
  ⟨rfl, rfl, rfl, rfl, rfl, (List.append_nil _).symm, nofun⟩

/-- A result issued in the instruction itself opens no latency window in it (R353). -/
theorem State.IssuedSince.inWindow_eq (h : s.IssuedSince u results) (r : RegNo) : u.inWindow r = s.inWindow r := by
  have noWindow : (results.any fun p => p.dest == r && p.issued != s.ip) = false := by
    rw [List.any_eq_false]
    intro p hp
    simp [h.issued p hp]
  rw [State.inWindow, State.inWindow, h.pending, h.ip, List.any_append, noWindow, Bool.or_false]

/-- A register that passes the check of its reads is outside every window, so that the draw is no matter (R353). -/
theorem State.IssuedSince.readReg_eq (h : s.IssuedSince u results) {r : RegNo} (hr : s.checkRead r = none) :
    u.readReg r = s.readReg r := by
  cases hw : hardwired s.cfg r with
  | some v => rw [State.readReg_of_hardwired hw, State.readReg_of_hardwired (h.cfg ▸ hw)]
  | none =>
    obtain fixed | ⟨free, -⟩ := State.checkRead_eq_none hr
    · rw [hw] at fixed
      cases fixed
    · have window := State.inWindow_of_not_inFlight free
      rw [State.readReg_of_not_inWindow hw window,
        State.readReg_of_not_inWindow (h.cfg ▸ hw) ((h.inWindow_eq r).trans window), State.fileReg, h.regs,
        State.fileReg]

theorem State.IssuedSince.guardHolds_eq (h : s.IssuedSince u results) (hi : s.checkReads i = none) :
    u.guardHolds i.guard = s.guardHolds i.guard := by
  obtain ⟨guard, -⟩ := State.checkReads_eq_none hi
  cases hg : i.guard with
  | none => rfl
  | some r => rw [State.guardHolds_some, State.guardHolds_some, h.readReg_eq (guard r hg)]

/-- Under a true guard an operation computes what it computes alone: its sources are read as they are in `s`. -/
theorem State.IssuedSince.resultOf_eq (h : s.IssuedSince u results) (hi : s.checkReads i = none)
    (hg : s.guardHolds i.guard = true) : u.resultOf i = s.resultOf i := by
  have sources : ∀ r ∈ i.sources, u.readReg r = s.readReg r :=
    fun r hr => h.readReg_eq ((State.checkReads_eq_none hi).2 hg r hr)
  cases i with
  | carry | mergemsb | ume8ii | hDspiabs | dspiabs | quadavg | dspuquadaddui =>
    simp only [Instr.sources, List.forall_mem_cons] at sources
    simp only [State.resultOf, sources]
  | ifixieee =>
    simp only [Instr.sources, List.forall_mem_cons] at sources
    simp only [State.resultOf, sources, h.rm]
  | cycles => simp only [State.resultOf, h.cccountSlave]
  | _ => rfl

theorem State.IssuedSince.inFlight_mono (h : s.IssuedSince u results) {d : RegNo} (free : u.inFlight d = false) :
    s.inFlight d = false := by
  rw [State.inFlight, h.pending, List.any_append, Bool.or_eq_false_iff] at free
  exact free.1

theorem State.IssuedSince.issuedBy_eq (h : s.IssuedSince u results) {n : Nat} (wf : i.wf s.cfg n = true)
    (hi : s.checkReads i = none) (free : u.DestFree i) : u.issuedBy i = s.issuedBy i := by
  obtain ⟨form, first, -⟩ := Instr.wf_iff.1 wf
  obtain ⟨a, ha⟩ := Instr.exists_attributes (Instr.namedOnly_of_formOk form) s.cfg
  have guard := h.guardHolds_eq hi
  cases hd : i.dest with
  | none => rw [u.issuedBy_of_no_dest hd, s.issuedBy_of_no_dest hd]
  | some d =>
    rw [State.issuedBy_of_dest hd (h.cfg ▸ ha) first fun hg => free hg d hd,
      State.issuedBy_of_dest hd ha first fun hg => h.inFlight_mono (free (guard.trans hg) d hd), guard]
    split
    · rename_i hg
      rw [h.resultOf_eq hi hg, State.resultRecord, State.resultRecord, h.ip]
    · rfl

/-- One more operation of the instruction. -/
theorem State.IssuedSince.exec (h : s.IssuedSince u results) {n : Nat} (wf : i.wf s.cfg n = true)
    (hi : s.checkReads i = none) (free : u.DestFree i) {t : State} (ht : exec i u = .next t) :
    s.IssuedSince { t with draws := t.draws + 1 } (results ++ s.issuedBy i) := by
  have same := h.issuedBy_eq wf hi free
  have pending : t.pending = s.pending ++ (results ++ s.issuedBy i) := by
    rw [pending_of_exec free ht, same, h.pending, List.append_assoc]
  have issued : ∀ p ∈ results ++ s.issuedBy i, p.issued = s.ip := by
    intro p hp
    rcases List.mem_append.1 hp with hp | hp
    · exact h.issued p hp
    · rw [← same] at hp
      obtain ⟨-, -, now⟩ := State.mem_issuedBy wf free hp
      exact now.trans h.ip
  have frame := (exec_effect ht).frame
  refine ⟨?_, ?_, ?_, ?_, ?_, pending, issued⟩ <;> rw [frame]
  exacts [h.cfg, h.ip, h.regs, h.rm, h.cccountSlave]

end

/-! ### A well-formed instruction -/

theorem State.firstBreach_eq_none {s : State} {ops : List Instr} (h : s.firstBreach ops = none) :
    (∀ i ∈ ops, s.checkReads i = none) ∧ (s.destinations ops).Nodup ∧
      ∀ d ∈ s.destinations ops, s.inFlight d = false := by
  obtain ⟨reads, writes⟩ := (Option.orElse_eq_none _ _).1 h
  refine ⟨List.findSome?_eq_none_iff.1 reads, ?_⟩
  unfold State.checkWrites at writes
  split at writes
  · cases writes
  · rename_i nodup
    split at writes
    · cases writes
    · rename_i free
      exact ⟨not_not.1 nodup, by simpa using free⟩

/-- The destination of an operation is among those of the instruction under a true guard only. -/
theorem State.destinations_cons (s : State) (i : Instr) (ops : List Instr) : s.destinations (i :: ops) =
    (if s.guardHolds i.guard then i.dest.toList else []) ++ s.destinations ops := by
  unfold State.destinations State.active
  cases hg : s.guardHolds i.guard with
  | false => simp [hg]
  | true => cases hd : i.dest <;> simp [hg, hd]

/-- Where no check of R352 fires, the operations of an instruction issue what each of them issues in `s`. -/
theorem State.IssuedSince.execOperations {s u t : State} {results : List InFlight} {ops : List Instr} {n : Nat}
    (h : s.IssuedSince u results) (wf : ∀ i ∈ ops, i.wf s.cfg n = true) (reads : ∀ i ∈ ops, s.checkReads i = none)
    (nodup : (s.destinations ops).Nodup) (free : ∀ d ∈ s.destinations ops, u.inFlight d = false)
    (he : execOperations ops u = .next t) : t.pending = s.pending ++ (results ++ ops.flatMap s.issuedBy) := by
  induction ops generalizing u results with
  | nil =>
    cases he
    rw [List.flatMap_nil, List.append_nil, h.pending]
  | cons i rest ih =>
    obtain ⟨w, hw, hrest⟩ := andThen_eq_next he
    obtain ⟨v, hv, rfl⟩ := execOperation_eq_next hw
    obtain ⟨wf_i, wf⟩ := List.forall_mem_cons.1 wf
    obtain ⟨reads_i, reads⟩ := List.forall_mem_cons.1 reads
    rw [State.destinations_cons] at nodup free
    obtain ⟨-, nodup, apart⟩ := List.nodup_append.1 nodup
    have own : ∀ {d}, s.guardHolds i.guard = true → i.dest = some d →
        d ∈ if s.guardHolds i.guard then i.dest.toList else [] := by
      intro d hg hd
      simp [hg, hd]
    have free_i : u.DestFree i := fun hg d hd =>
      free d (List.mem_append_left _ (own (h.guardHolds_eq reads_i ▸ hg) hd))
    have after := h.exec wf_i reads_i free_i hv
    have free_rest : ∀ d ∈ s.destinations rest, v.inFlight d = false := by
      intro d hd
      rw [State.inFlight, pending_of_exec free_i hv, List.any_append, Bool.or_eq_false_iff]
      refine ⟨free d (List.mem_append_right _ hd), List.any_eq_false.2 fun p hp same => ?_⟩
      obtain ⟨hg, dest, -⟩ := State.mem_issuedBy wf_i free_i hp
      exact apart p.dest (own (h.guardHolds_eq reads_i ▸ hg) dest) d hd (beq_iff_eq.1 same)
    rw [List.flatMap_cons, ← List.append_assoc results]
    exact ih after wf reads nodup free_rest hrest

/-- Settles O9: no operation is refused, and each finds the state it is executed in alone, but for results issued in the
same instruction, which it does not see. -/
theorem wellFormedInstructionsRun : Obligations.WellFormedInstructionsRun := by
  intro s recs turn hf decodes wf
  obtain ⟨-, -, ops⟩ := instructionWf_iff.1 wf
  rw [step_of_fetch turn hf, executeInstruction_of_ok (checkInstruction_of_wf decodes wf)]
  rcases execOperations_of_wf ops (s.prepare (operationsOf recs)) with ⟨u, hu⟩ | fault
  · refine .inl ⟨u.advance, by rw [hu, andThen_next], ?_, fun passes => ?_⟩
    · rw [execOperations_frame hu, State.advance_ip, State.prepare_ip]
    · obtain ⟨reads, nodup, free⟩ := State.firstBreach_eq_none passes
      rw [State.advance_pending]
      exact (State.IssuedSince.prepare s _).execOperations (by rwa [State.commit_cfg]) reads nodup free hu
  · exact .inr (by rw [fault, andThen_fault])

end Sys2Proof.Machine
end

section
/-! PROOFS for 40_alu.md: carry (R130) and mergemsb (R132), from what an operation with a destination does under either
guard and from the bytes of a word of four. -/

namespace Sys2Proof.Machine

/-! ### A true guard -/

theorem State.issueWhen_of_guard_true {s : State} {g : Option RegNo} (h : s.guardHolds g = true) (d : RegNo)
    (a : Attributes) (v : Word) (f : FpFlags) : s.issueWhen g d a v f = .next (s.issue d a.resultLatency v f) := by
  simp [State.issueWhen, h]

/-- An operation with a destination goes on with its result issued, in every state. -/
theorem exec_of_guard_true {i : Instr} {s : State} {d : RegNo} {a : Attributes} (hg : s.guardHolds i.guard = true)
    (hd : i.dest = some d) (ha : i.attributes s.cfg = some a) (first : i.firstArgumentOk = true) :
    exec i s = .next (s.issue d a.resultLatency (s.resultOf i).1 (s.resultOf i).2) :=
  (exec_of_dest hd ha first).trans (State.issueWhen_of_guard_true hg _ _ _ _)

/-! ### The bytes of a word of four -/

theorem byteOf_wordOf (b : Fin 4 → Byte) (k : Fin 4) : byteOf (wordOf (b 3) (b 2) (b 1) (b 0)) k = b k := by
  refine BitVec.eq_of_getLsbD_eq fun i hi => ?_
  simp only [byteOf, BitVec.getLsbD_extractLsb', getLsbD_wordOf, hi, decide_true, Bool.true_and]
  match k with
  | 0 => simp [hi]
  | 1 => simp [show 8 + i < 16 by omega]
  | 2 => simp [show ¬ 16 + i < 8 by omega, show 16 + i < 24 by omega]
  | 3 => simp [show ¬ 24 + i < 8 by omega, show ¬ 24 + i < 16 by omega]

section
variable (b3 b2 b1 b0 : Byte)

@[simp] theorem byteOf_wordOf_zero : byteOf (wordOf b3 b2 b1 b0) 0 = b0 := byteOf_wordOf ![b0, b1, b2, b3] 0
@[simp] theorem byteOf_wordOf_one : byteOf (wordOf b3 b2 b1 b0) 1 = b1 := byteOf_wordOf ![b0, b1, b2, b3] 1
@[simp] theorem byteOf_wordOf_two : byteOf (wordOf b3 b2 b1 b0) 2 = b2 := byteOf_wordOf ![b0, b1, b2, b3] 2
@[simp] theorem byteOf_wordOf_three : byteOf (wordOf b3 b2 b1 b0) 3 = b3 := byteOf_wordOf ![b0, b1, b2, b3] 3

end

/-! ### The two operations -/

/-- Settles O17: the value that `carry` issues is the carry of the exact unsigned sum. -/
theorem carryResult : Obligations.CarryResult := by
  intro c g a b d k s
  refine ⟨decode_encode (.carry g a b d k), rfl, fun hg => ?_, fun hg => ?_⟩
  · exact exec_of_guard_true (i := .carry g a b d k) hg rfl rfl rfl
  · exact exec_of_guard_false (i := .carry g a b d k) hg rfl rfl

/-- Settles O18: each byte of the word that `mergemsb` issues is a byte of one of its sources. -/
theorem mergemsbResult : Obligations.MergemsbResult := by
  intro c g a b d k s
  refine ⟨decode_encode (.mergemsb g a b d k), rfl, fun hg => ?_, fun hg => ?_⟩
  · refine ⟨mergemsbValue (s.readReg a) (s.readReg b),
      exec_of_guard_true (i := .mergemsb g a b d k) hg rfl rfl rfl, ?_, ?_, ?_, ?_⟩
    · exact byteOf_wordOf_three ..
    · exact byteOf_wordOf_two ..
    · exact byteOf_wordOf_one ..
    · exact byteOf_wordOf_zero ..
  · exact exec_of_guard_false (i := .mergemsb g a b d k) hg rfl rfl

end Sys2Proof.Machine
end

section
/-! PROOFS for 41_special.md: cycles (R140), from what an operation with a destination does under either guard. -/

namespace Sys2Proof.Machine

/-- Settles O21: the value that `cycles` issues is the low word of the slave CCCOUNT, and its latency that of its
attributes. -/
theorem cyclesResult : Obligations.CyclesResult := by
  intro c g d k s
  refine ⟨decode_encode (.cycles g d k), rfl, fun hg => ?_, fun hg => ?_⟩
  · have lowWord : (s.resultOf (.cycles g d k)).1 = s.cccountSlave.extractLsb 31 0 := rfl
    have issues := exec_of_guard_true (i := .cycles g d k) hg rfl rfl rfl
    rwa [lowWord] at issues
  · exact exec_of_guard_false (i := .cycles g d k) hg rfl rfl

end Sys2Proof.Machine
end

section
/-! PROOFS for 42_dspalu.md: ume8ii (R153), h_dspiabs and dspiabs (R150 to R152), quadavg and dspuquadaddui (R155 to
R159), each from the value it computes; and the operand and register values that are refused by name (R151, R198, R362;
U8, U9, U11, U15). -/

namespace Sys2Proof.Machine

/-! ### The sum of absolute differences -/

theorem byteDistance_comm (x y : Byte) : byteDistance x y = byteDistance y x := by
  unfold byteDistance
  omega

theorem byteDistance_le (x y : Byte) : byteDistance x y ≤ 255 := by
  have x_ge : -128 ≤ x.toInt := x.le_toInt
  have x_lt : x.toInt < 128 := x.toInt_lt
  have y_ge : -128 ≤ y.toInt := y.le_toInt
  have y_lt : y.toInt < 128 := y.toInt_lt
  unfold byteDistance
  omega

theorem ume8iiValue_comm (x y : Word) : ume8iiValue x y = ume8iiValue y x := by
  simp only [ume8iiValue, byteDistance_comm]

/-- The word holds the sum: four distances of bytes do not wrap. -/
theorem toNat_ume8iiValue (x y : Word) : (ume8iiValue x y).toNat = byteDistance (byteOf x 3) (byteOf y 3) +
    byteDistance (byteOf x 2) (byteOf y 2) + byteDistance (byteOf x 1) (byteOf y 1) +
    byteDistance (byteOf x 0) (byteOf y 0) := by
  have lane (k : Nat) : byteDistance (byteOf x k) (byteOf y k) ≤ 255 := byteDistance_le _ _
  exact (BitVec.toNat_ofNat _ _).trans (Nat.mod_eq_of_lt (by linarith [lane 0, lane 1, lane 2, lane 3]))

theorem toNat_ume8iiValue_le (x y : Word) : (ume8iiValue x y).toNat ≤ 0x3fc := by
  have lane (k : Nat) : byteDistance (byteOf x k) (byteOf y k) ≤ 255 := byteDistance_le _ _
  rw [toNat_ume8iiValue]
  linarith [lane 0, lane 1, lane 2, lane 3]

theorem exec_ume8ii (g : Option RegNo) (a b d : RegNo) (k : Nat) (s : State) : exec (.ume8ii g a b d k) s =
    s.issueWhen g d ume8iiAttributes (ume8iiValue (s.readReg a) (s.readReg b)) noFlags := rfl

/-- Settles O19: the value that `ume8ii` issues is a sum of four distances, each of them symmetric. -/
theorem ume8iiResult : Obligations.Ume8iiResult := by
  intro c g a b d k s
  refine ⟨decode_encode (.ume8ii g a b d k), rfl, fun hg => ?_, fun hg => ?_⟩
  · refine ⟨_, exec_of_guard_true (i := .ume8ii g a b d k) hg rfl rfl rfl, toNat_ume8iiValue _ _,
      toNat_ume8iiValue_le _ _, ?_⟩
    rw [exec_ume8ii, exec_ume8ii, ume8iiValue_comm]
  · exact exec_of_guard_false (i := .ume8ii g a b d k) hg rfl rfl

/-! ### The clipped absolute value -/

/-- Only -2^31 is clipped: every other word has an absolute value in range (R150). -/
theorem toInt_dspiabsValue (y : Word) : (dspiabsValue y).toInt = min |y.toInt| (2 ^ 31 - 1) := by
  have ge : -2 ^ 31 ≤ y.toInt := y.le_toInt
  have lt : y.toInt < 2 ^ 31 := y.toInt_lt
  unfold dspiabsValue
  split
  · rename_i nonneg
    rw [abs_of_nonneg nonneg]
    omega
  · rename_i neg
    rw [abs_of_neg (not_le.1 neg)]
    split
    · rename_i least
      rw [least]
      decide
    · rename_i inRange
      rw [BitVec.toInt_ofInt_eq_self (by decide) (by omega) (by omega)]
      omega

theorem getLsbD_31_dspiabsValue (y : Word) : (dspiabsValue y).getLsbD 31 = false := by
  have nonneg : 0 ≤ (dspiabsValue y).toInt := by
    rw [toInt_dspiabsValue]
    exact le_min (abs_nonneg _) (by decide)
  have sign : (dspiabsValue y).msb = false := by
    rw [BitVec.msb_eq_toInt, decide_eq_false_iff_not]
    exact not_lt.2 nonneg
  rwa [BitVec.msb_eq_getLsbD_last] at sign

/-- `dspiabs` is the pseudo operation for `h_dspiabs r0` (R117, R358). -/
theorem exec_hDspiabs_zero (g : Option RegNo) (b d : RegNo) (k : Nat) (s : State) :
    exec (.hDspiabs g 0 b d k) s = exec (.dspiabs g b d k) s := rfl

/-- Settles O20: the value that both operations issue is the absolute value, clipped at its one end. -/
theorem dspiabsResult : Obligations.DspiabsResult := by
  intro c g b d k s
  refine ⟨decode_encode (.hDspiabs g 0 b d k), rfl, (exec_hDspiabs_zero g b d k s).symm, fun hg => ?_, fun hg => ?_⟩
  · exact ⟨_, exec_of_guard_true (i := .hDspiabs g 0 b d k) hg rfl rfl rfl, toInt_dspiabsValue _,
      getLsbD_31_dspiabsValue _⟩
  · exact exec_of_guard_false (i := .hDspiabs g 0 b d k) hg rfl rfl

/-! ### Operations lane by lane -/

theorem byteOf_mapLanes (f : Byte → Byte → Byte) (x y : Word) {j : Nat} (hj : j < 4) :
    byteOf (mapLanes f x y) j = f (byteOf x j) (byteOf y j) :=
  byteOf_wordOf (fun k => f (byteOf x k) (byteOf y k)) ⟨j, hj⟩

/-- The average of two bytes is a byte: nothing is cut off. -/
theorem toNat_byteAverage (a w : Byte) : (byteAverage a w).toNat = (a.toNat + w.toNat + 1) / 2 := by
  have a_lt : a.toNat < 256 := a.isLt
  have w_lt : w.toNat < 256 := w.isLt
  exact (BitVec.toNat_ofNat _ _).trans (Nat.mod_eq_of_lt (by omega))

theorem uclipi_eq_min_max (m : Int) {n : Int} (hn : 0 ≤ n) : uclipi m n = min (max m 0) n := by
  unfold uclipi
  omega

/-- What is clipped to [0, 255] is a byte: nothing is cut off. -/
theorem toNat_byteClippedAdd (e t : Byte) :
    ((byteClippedAdd e t).toNat : Int) = uclipi ((e.toNat : Int) + t.toInt) 255 := by
  have clipped := uclipi_eq_min_max ((e.toNat : Int) + t.toInt) (n := 255) (by decide)
  unfold byteClippedAdd
  rw [BitVec.toNat_ofInt]
  omega

/-- Settles O23, by lanes. -/
theorem quadavgResult : Obligations.QuadavgResult := by
  intro c g a b d k s
  refine ⟨decode_encode (.quadavg g a b d k), rfl, fun hg => ?_, fun hg => ?_⟩
  · refine ⟨_, exec_of_guard_true (i := .quadavg g a b d k) hg rfl rfl rfl, fun j hj => ?_⟩
    exact (congrArg BitVec.toNat (byteOf_mapLanes byteAverage _ _ hj)).trans (toNat_byteAverage _ _)
  · exact exec_of_guard_false (i := .quadavg g a b d k) hg rfl rfl

/-- Settles O24, by lanes. -/
theorem dspuquadadduiResult : Obligations.DspuquadadduiResult := by
  intro c g a b d k s
  refine ⟨decode_encode (.dspuquadaddui g a b d k), rfl, fun hg => ?_, fun hg => ?_⟩
  · refine ⟨_, exec_of_guard_true (i := .dspuquadaddui g a b d k) hg rfl rfl rfl, fun j hj => ?_⟩
    calc ((byteOf (dspuquadadduiValue (s.readReg a) (s.readReg b)) j).toNat : Int)
        = (byteClippedAdd (byteOf (s.readReg a) j) (byteOf (s.readReg b) j)).toNat := by
          rw [dspuquadadduiValue, byteOf_mapLanes _ _ _ hj]
      _ = _ := (toNat_byteClippedAdd _ _).trans (uclipi_eq_min_max _ (by decide))
  · exact exec_of_guard_false (i := .dspuquadaddui g a b d k) hg rfl rfl

/-- The saturation test of Figure 4-4 is the clip of `dspuquadaddui` (R158, R159). -/
theorem figure44Pixel_eq_uclipi (back forward idct : Byte) : figure44Pixel back forward idct =
    uclipi (((back.toNat + forward.toNat + 1 : Nat) : Int) / 2 + idct.toInt) 255 := rfl

/-- Settles O25: the C code's average and saturation are those of the two operations, lane by lane. -/
theorem mpegKernelMatchesFigure44 : Obligations.MpegKernelMatchesFigure44 := by
  intro back forward idct j hj
  rw [dspuquadadduiValue, byteOf_mapLanes _ _ _ hj, quadavgValue, byteOf_mapLanes _ _ _ hj, toNat_byteClippedAdd,
    toNat_byteAverage, figure44Pixel_eq_uclipi, Int.natCast_ediv, Nat.cast_two]

/-! ### Refused operand values -/

theorem exec_hDspiabs_of_ne {a : RegNo} (ha : a ≠ 0) (g : Option RegNo) (b d : RegNo) (k : Nat) (s : State) :
    exec (.hDspiabs g a b d k) s = .refused .hDspiabsSrc1 := if_neg ha

theorem exec_hSt16d_of_ne {d : Int} (hd : d ≠ 0) (g : Option RegNo) (a b : RegNo) (k : Nat) (s : State) :
    exec (.hSt16d g a b d k) s = .refused .hSt16dDisplacement := if_neg hd

/-- No operation has both operands that are refused by name. -/
theorem Instr.firstArgumentOk_of_not_displacementOk {i : Instr} (h : i.displacementOk = false) :
    i.firstArgumentOk = true := by
  cases i with
  | hSt16d => rfl
  | _ => cases h

theorem lateRefusal_of_not_firstArgumentOk {i : Instr} (h : i.firstArgumentOk = false) :
    lateRefusal i = some .hDspiabsSrc1 := by
  simp [lateRefusal, h]

theorem lateRefusal_of_not_displacementOk {i : Instr} (h : i.displacementOk = false) :
    lateRefusal i = some .hSt16dDisplacement := by
  simp [lateRefusal, Instr.firstArgumentOk_of_not_displacementOk h, h]

theorem lateRefusal_of_ok {i : Instr} (h : i.firstArgumentOk = true ∧ i.displacementOk = true) :
    lateRefusal i = none := by
  simp [lateRefusal, h]

/-- Operations in distinct slots stand in ascending slot order. -/
theorem operationsOf_pairwise_slot_lt {recs : List OpRecord} (slots : slotsDistinct (operationsOf recs) = true) :
    (operationsOf recs).Pairwise fun i j => i.slot < j.slot := by
  have sorted : (operationsOf recs).Pairwise fun i j => i.slot ≤ j.slot :=
    List.pairwise_insertionSort (Instr.slot ⁻¹'o (· ≤ ·)) _
  have distinct : (operationsOf recs).Pairwise fun i j => i.slot ≠ j.slot :=
    List.pairwise_map.1 (of_decide_eq_true slots)
  exact sorted.imp₂ (fun _ _ => lt_of_le_of_ne) distinct

/-- The refusal that the operation in the lowest slot has is the one that an instruction has (R362). -/
theorem findSome?_lateRefusal_of_lowest {ops : List Instr} (sorted : ops.Pairwise fun i j => i.slot < j.slot)
    {i : Instr} (hi : i ∈ ops) {e : Refusal} (he : lateRefusal i = some e)
    (lower : ∀ j ∈ ops, j.slot < i.slot → lateRefusal j = none) : ops.findSome? lateRefusal = some e := by
  obtain ⟨before, after, rfl⟩ := List.append_of_mem hi
  obtain ⟨-, -, ascending⟩ := List.pairwise_append.1 sorted
  have passes : before.findSome? lateRefusal = none := List.findSome?_eq_none_iff.2 fun j hj =>
    lower j (List.mem_append_left _ hj) (ascending j hj i List.mem_cons_self)
  rw [List.findSome?_append, passes, List.findSome?_cons, he]
  rfl

/-- In an instruction with no other defect, the first operation with a refused operand value decides. -/
theorem checkInstruction_of_lateRefusal {c : Config} {n : Nat} {recs : List OpRecord}
    (decodes : ∀ r ∈ recs, ∃ i, decode r = .ok i) (length : recs.length ≤ 5)
    (slots : slotsDistinct (operationsOf recs) = true) (form : ∀ i ∈ operationsOf recs, i.formOk c n = true)
    {e : Refusal} (late : (operationsOf recs).findSome? lateRefusal = some e) :
    checkInstruction c n recs = .error e := by
  have named : (operationsOf recs).findSome? Instr.namedOnly = none :=
    List.findSome?_eq_none_iff.2 fun i hi => Instr.namedOnly_of_formOk (form i hi)
  simp [checkInstruction, any_rejectedFor_eq_false (decode_ne_error decodes _), named, length, slots,
    List.all_eq_true.2 form, late]

theorem step_of_lateRefusal {s : State} {recs : List OpRecord} (turn : s.onTurn) (hf : s.fetch = some recs)
    (decodes : ∀ r ∈ recs, ∃ i, decode r = .ok i) (length : recs.length ≤ 5)
    (slots : slotsDistinct (operationsOf recs) = true)
    (form : ∀ i ∈ operationsOf recs, i.formOk s.cfg s.nRegs = true) {i : Instr} (hi : i ∈ operationsOf recs)
    (lower : ∀ j ∈ operationsOf recs, j.slot < i.slot → lateRefusal j = none) {e : Refusal}
    (he : lateRefusal i = some e) : step s = .refused e := by
  have first := findSome?_lateRefusal_of_lowest (operationsOf_pairwise_slot_lt slots) hi he lower
  rw [step_of_fetch turn hf, executeInstruction_of_error
    (checkInstruction_of_lateRefusal decodes length slots form first)]

/-! ### Refused register values -/

theorem VideoOut.writeCtl_of_not_intensOk {w : VoCtlWrite} (reset : w.resetOk = true) (intens : w.intensOk = false)
    (u : VideoOut) : u.writeCtl w = .error .voMessageModeIntens := by
  simp [VideoOut.writeCtl, reset, intens]

theorem VoCtlWrite.resetOk_of_imp {w : VoCtlWrite} (h : w.reset = true → w.voEnable = false) : w.resetOk = true := by
  unfold VoCtlWrite.resetOk
  cases reset : w.reset with
  | false => rfl
  | true => rw [h reset]; rfl

theorem VoCtlWrite.not_intensOk {w : VoCtlWrite} (mode : w.mode = .messagePassing)
    (on : w.enables.bfr2Empty = true ∨ w.enables.urun = true ∨ w.enables.ytr = true) : w.intensOk = false := by
  rcases on with on | on | on <;> simp [VoCtlWrite.intensOk, mode, on]

theorem VideoOut.writeTiming_of_odd {t : VoTiming} (odd : t.videoPixelStart % 2 = 1) (u : VideoOut) :
    u.writeTiming t = .error .voPixelStartOdd := by
  simp [VideoOut.writeTiming, odd]

theorem VideoIn.writeSize_of_no_reset {u : VideoIn} (mode : u.mode = .messagePassing) (noReset : u.softReset = false)
    (v : Word) : u.writeSize v = .error .viSizeWithoutReset := by
  simp [VideoIn.writeSize, mode, noReset]

/-- Overlay format 3 and the RGB codes from 8 on are not listed (R321). -/
theorem not_listed_icpControl {w : BitVec 16} (h : w.extractLsb 7 6 = 3 ∨ 8 ≤ (w.extractLsb 3 0).toNat) :
    (icpControl w).listed = false := by
  refine Bool.and_eq_false_iff.2 (h.imp (fun overlay => ?_) fun code => ?_)
  · have ofrm : (icpControl w).ofrm = 3 := congrArg BitVec.toNat overlay
    simp [ofrm]
  · exact decide_eq_false (not_lt.2 code)

theorem Icp.load_of_not_listed {p : IcpParameters} (h : (icpControl p.control).listed = false) (u : Icp) :
    u.load p = .error .icpUnlistedFormat := by
  simp [Icp.load, h]

/-- Settles O13: in `exec` by the operand alone, in `step` by the order of R362, in the units by the check of the
register written. -/
theorem refusedOperandValues : Obligations.RefusedOperandValues := by
  refine ⟨fun g a b d k s ha => exec_hDspiabs_of_ne ha g b d k s,
    fun g a b d k s hd => exec_hSt16d_of_ne hd g a b k s, ?_, ?_, ?_, ?_, ?_⟩
  · intro s recs r i turn hf hr hd length slots others
    have decodes : ∀ q ∈ recs, ∃ j, decode q = .ok j := fun q hq => (others q hq).imp fun _ h => h.1
    have operations : ∀ j ∈ operationsOf recs, j.formOk s.cfg s.nRegs = true ∧
        (j.slot < i.slot → lateRefusal j = none) := by
      intro j hj
      obtain ⟨q, hq, hdj⟩ := mem_operationsOf.1 hj
      obtain ⟨j', hdj', -, form, lower⟩ := others q hq
      cases hdj.symm.trans hdj'
      exact ⟨form, fun lt => lateRefusal_of_ok (lower lt)⟩
    have refused {e : Refusal} (he : lateRefusal i = some e) : step s = .refused e :=
      step_of_lateRefusal turn hf decodes length slots (fun j hj => (operations j hj).1)
        (mem_operationsOf.2 ⟨r, hr, hd⟩) (fun j hj => (operations j hj).2) he
    exact ⟨fun h => refused (lateRefusal_of_not_firstArgumentOk h),
      fun h => refused (lateRefusal_of_not_displacementOk h)⟩
  · intro s w mode reset on
    exact congrArg (orRefuse · s.setEvo) (VideoOut.writeCtl_of_not_intensOk (VoCtlWrite.resetOk_of_imp reset)
      (VoCtlWrite.not_intensOk mode on) s.units.evo)
  · intro s t odd
    exact congrArg (orRefuse · s.setEvo) (VideoOut.writeTiming_of_odd odd s.units.evo)
  · intro s v mode noReset
    exact congrArg (orRefuse · s.setVi) (VideoIn.writeSize_of_no_reset mode noReset v)
  · intro s p unlisted
    exact congrArg (orRefuse · s.setIcp) (Icp.load_of_not_listed (not_listed_icpControl unlisted) s.units.icp)

end Sys2Proof.Machine
end

section
/-! PROOFS for 43_float.md: ifixieee (R170 to R175). Each class of operand has one equation of `ifixieeeResult`; that a
normal operand is rounded exactly follows from the rounding of a ratio and from the ratio that a normal operand is. -/

namespace Sys2Proof.Machine

/-! ### Issue -/

/-- Settles O26: the value and the flags that `ifixieee` issues are those of its operand and of the mode of PCSW. -/
theorem ifixieeeIssuesResultAndFlags : Obligations.IfixieeeIssuesResultAndFlags := by
  intro c g a d k s
  refine ⟨decode_encode (.ifixieee g a d k), rfl, fun hg => ?_, fun hg => ?_⟩
  · exact exec_of_guard_true (i := .ifixieee g a d k) hg rfl rfl rfl
  · exact exec_of_guard_false (i := .ifixieee g a d k) hg rfl rfl

/-! ### One equation per class of operand -/

/-- The result for a value that was rounded to `n`, and whose rounding was inexact or not (R173, R174). -/
def convertRounded (n : Int) (inexact : Bool) : Word × FpFlags :=
  if 2 ^ 31 - 1 < n then (0x7fffffff, ⟨false, false, true⟩)
  else if n < -2 ^ 31 then (0x80000000, ⟨false, false, true⟩)
  else (BitVec.ofInt 32 n, ⟨false, inexact, false⟩)

section
variable {mode : RoundingMode} {v : Word}

theorem ifixieeeResult_of_denormal (exp : fpExp v = 0) (frac : fpFrac v ≠ 0) :
    ifixieeeResult mode v = (0, ⟨true, false, false⟩) := by
  simp [ifixieeeResult, isDenormal, exp, frac]

theorem ifixieeeResult_of_nan (exp : fpExp v = 255) (frac : fpFrac v ≠ 0) :
    ifixieeeResult mode v = (0, ⟨false, false, true⟩) := by
  simp [ifixieeeResult, isDenormal, isNan, exp, frac]

theorem ifixieeeResult_of_inf (exp : fpExp v = 255) (frac : fpFrac v = 0) :
    ifixieeeResult mode v = (if fpSign v then 0x80000000 else 0x7fffffff, ⟨false, false, true⟩) := by
  simp [ifixieeeResult, isDenormal, isNan, isInf, exp, frac]

theorem ifixieeeResult_of_finite (notDenormal : fpExp v = 0 → fpFrac v = 0) (finite : fpExp v ≠ 255) :
    ifixieeeResult mode v = convertRounded (roundRatio mode (fpNum v) (fpDen v))
      (decide (roundRatio mode (fpNum v) (fpDen v) * fpDen v ≠ fpNum v)) := by
  have denormal : isDenormal v = false := by simpa [isDenormal] using notDenormal
  simp [ifixieeeResult, convertRounded, denormal, isNan, isInf, finite]

end

section
variable {n : Int} {inexact : Bool}

theorem convertRounded_of_above (h : 2 ^ 31 - 1 < n) :
    convertRounded n inexact = (0x7fffffff, ⟨false, false, true⟩) := if_pos h

theorem convertRounded_of_below (h : n < -2 ^ 31) : convertRounded n inexact = (0x80000000, ⟨false, false, true⟩) := by
  have notAbove : ¬ 2 ^ 31 - 1 < n := by omega
  rw [convertRounded, if_neg notAbove, if_pos h]

theorem convertRounded_of_inRange (ge : -2 ^ 31 ≤ n) (le : n ≤ 2 ^ 31 - 1) :
    convertRounded n inexact = (BitVec.ofInt 32 n, ⟨false, inexact, false⟩) := by
  rw [convertRounded, if_neg (not_lt.2 le), if_neg (not_lt.2 ge)]

/-- Out of range INV is set alone, so INX is set only where the rounding was inexact. -/
theorem convertRounded_inx_of_exact (n : Int) : (convertRounded n false).2.inx = false := by
  unfold convertRounded
  split
  · rfl
  · split <;> rfl

end

/-! ### Rounding a ratio -/

/-- An integer is rounded to itself. -/
theorem roundRatio_one (mode : RoundingMode) (num : Int) : roundRatio mode num 1 = num := by
  cases mode <;> simp [roundRatio]

theorem roundRatio_zero (mode : RoundingMode) (den : Nat) : roundRatio mode 0 den = 0 := by
  cases mode <;> simp [roundRatio]

section
variable {den : Nat} (num : Int)

theorem ratio_sub_below (pos : 0 < den) :
    (num : ℚ) / den - (num / den : Int) = ((num % den : Int) : ℚ) / den := by
  have den_ne : (den : ℚ) ≠ 0 := by positivity
  have division : (den : ℚ) * (num / den : Int) + (num % den : Int) = num := by
    exact_mod_cast Int.mul_ediv_add_emod num den
  rw [← division]
  field_simp
  ring

theorem fraction_nonneg (pos : 0 < den) : 0 ≤ ((num % den : Int) : ℚ) / den :=
  div_nonneg (by exact_mod_cast Int.emod_nonneg num (by omega)) (by positivity)

theorem fraction_lt_one (pos : 0 < den) : ((num % den : Int) : ℚ) / den < 1 :=
  (div_lt_one (by positivity)).2 (by exact_mod_cast Int.emod_lt_of_pos num (by omega))

theorem fraction_lt_half_iff (pos : 0 < den) : ((num % den : Int) : ℚ) / den < 1 / 2 ↔ 2 * (num % den) < den := by
  rw [div_lt_div_iff₀ (by positivity) two_pos, one_mul, mul_comm]
  exact_mod_cast Iff.rfl

theorem half_lt_fraction_iff (pos : 0 < den) : 1 / 2 < ((num % den : Int) : ℚ) / den ↔ den < 2 * (num % den) := by
  rw [div_lt_div_iff₀ two_pos (by positivity), one_mul, mul_comm]
  exact_mod_cast Iff.rfl

theorem floor_ratio : ⌊(num : ℚ) / den⌋ = num / den := Rat.floor_intCast_div_natCast num den

theorem ceil_ratio (pos : 0 < den) :
    ⌈(num : ℚ) / den⌉ = if num % den = 0 then num / den else num / den + 1 := by
  have fraction := ratio_sub_below num pos
  split
  · rename_i whole
    rw [whole, Int.cast_zero, zero_div, sub_eq_zero] at fraction
    rw [fraction, Int.ceil_intCast]
  · rename_i inexact
    have fraction_ne : ((num % den : Int) : ℚ) / den ≠ 0 := div_ne_zero (by exact_mod_cast inexact) (by positivity)
    have fraction_pos := lt_of_le_of_ne (fraction_nonneg num pos) fraction_ne.symm
    have fraction_lt := fraction_lt_one num pos
    rw [Int.ceil_eq_iff]
    push_cast
    constructor <;> linarith

theorem ratio_nonneg_iff (pos : 0 < den) : 0 ≤ (num : ℚ) / den ↔ 0 ≤ num := by
  have den_pos : (0 : ℚ) < den := by positivity
  rw [le_div_iff₀ den_pos, zero_mul, Int.cast_nonneg_iff]

end

/-- Nearer than half, an integer is the nearest one; at a half it has to be even. -/
theorem roundsTo_nearestEven_of {q : ℚ} {n : Int} (h : |q - n| < 1 / 2 ∨ |q - n| = 1 / 2 ∧ n % 2 = 0) :
    RoundsTo .nearestEven q n := by
  rcases h with near | ⟨tie, even⟩
  · exact ⟨near.le, fun tie => absurd tie near.ne⟩
  · exact ⟨tie.le, fun _ => even⟩

/-- The fraction is the distance to the integer below, and what it lacks to 1 the distance to the one above. -/
theorem roundsTo_nearestEven_roundRatio (num : Int) {den : Nat} (pos : 0 < den) :
    RoundsTo .nearestEven ((num : ℚ) / den) (roundRatio .nearestEven num den) := by
  have fraction := ratio_sub_below num pos
  have toBelow : |(num : ℚ) / den - (num / den : Int)| = ((num % den : Int) : ℚ) / den := by
    rw [fraction, abs_of_nonneg (fraction_nonneg num pos)]
  have toAbove : |(num : ℚ) / den - (num / den + 1 : Int)| = 1 - ((num % den : Int) : ℚ) / den := by
    rw [abs_sub_comm, Int.cast_add, Int.cast_one, add_sub_right_comm, ← neg_sub, fraction, neg_add_eq_sub,
      abs_of_pos (sub_pos.2 (fraction_lt_one num pos))]
  apply roundsTo_nearestEven_of
  simp only [roundRatio]
  split
  · rename_i below
    rw [toBelow]
    exact .inl ((fraction_lt_half_iff num pos).2 below)
  · rename_i notBelow
    split
    · rename_i above
      rw [toAbove]
      exact .inl (by linarith [(half_lt_fraction_iff num pos).2 above])
    · rename_i notAbove
      have tie : ((num % den : Int) : ℚ) / den = 1 / 2 := le_antisymm
        (not_lt.1 fun h => notAbove ((half_lt_fraction_iff num pos).1 h))
        (not_lt.1 fun h => notBelow ((fraction_lt_half_iff num pos).1 h))
      right
      split
      · rename_i even
        rw [toBelow]
        exact ⟨tie, even⟩
      · rw [toAbove, tie]
        exact ⟨by norm_num, by omega⟩

/-- The rounding of the model is the rounding of R172, for every ratio. -/
theorem roundsTo_roundRatio (mode : RoundingMode) (num : Int) {den : Nat} (pos : 0 < den) :
    RoundsTo mode ((num : ℚ) / den) (roundRatio mode num den) := by
  cases mode with
  | nearestEven => exact roundsTo_nearestEven_roundRatio num pos
  | towardMinusInf => exact (floor_ratio num).symm
  | towardPlusInf => exact (ceil_ratio num pos).symm
  | towardZero =>
    simp only [RoundsTo, roundRatio, ratio_nonneg_iff num pos, floor_ratio, ceil_ratio num pos]
    by_cases nonneg : 0 ≤ num <;> simp [nonneg]

/-! ### The ratio that a normal operand is -/

theorem fpDen_pos (v : Word) : 0 < fpDen v := Nat.two_pow_pos _

theorem fpNum_of_zero {v : Word} (exp : fpExp v = 0) : fpNum v = 0 := by
  simp [fpNum, exp]

theorem fpNum_of_nonzero {v : Word} (exp : 0 < fpExp v) :
    fpNum v = (if fpSign v then -1 else 1) * ((2 ^ 23 + fpFrac v : Nat) * 2 ^ (fpExp v - 150)) := by
  cases sign : fpSign v <;> simp [fpNum, exp.ne', sign]

/-- One of the two truncated differences is 0, and the other one is the exponent or its opposite. -/
theorem two_pow_sub_div_two_pow_sub (a b : Nat) : (2 : ℚ) ^ (a - b) / 2 ^ (b - a) = 2 ^ ((a : ℤ) - b) := by
  rw [← zpow_natCast, ← zpow_natCast, ← zpow_sub₀ two_ne_zero]
  congr 1
  omega

/-- The numerator and the denominator of the model stand for the value that R23 writes. -/
theorem fpValue_eq_ratio {v : Word} (exp : 0 < fpExp v) : fpValue v = (fpNum v : ℚ) / fpDen v := by
  have scale : (2 : ℚ) ^ ((fpExp v : ℤ) - 127) = 2 ^ 23 * (2 ^ (fpExp v - 150) / 2 ^ (150 - fpExp v)) := by
    rw [two_pow_sub_div_two_pow_sub, ← zpow_natCast, ← zpow_add₀ two_ne_zero]
    congr 1
    push_cast
    ring
  rw [fpValue, scale, fpNum_of_nonzero exp, fpDen]
  push_cast
  ring

/-! ### Special, normal and large operands -/

/-- Settles O27, by classes: a zero is converted like a normal operand, and is the ratio 0. -/
theorem ifixieeeSpecialOperands : Obligations.IfixieeeSpecialOperands := by
  intro mode v
  refine ⟨ifixieeeResult_of_denormal, fun exp frac => ?_, ifixieeeResult_of_nan, ?_, ?_⟩
  · rw [ifixieeeResult_of_finite (fun _ => frac) (by omega), fpNum_of_zero exp, roundRatio_zero, zero_mul]
    rfl
  · exact ifixieeeResult_of_inf (by decide) (by decide)
  · exact ifixieeeResult_of_inf (by decide) (by decide)

/-- Settles O28: the rounded integer is that of the operand's ratio, and INX compares the two across the denominator. -/
theorem ifixieeeRoundsTheExactValue : Obligations.IfixieeeRoundsTheExactValue := by
  rintro mode v ⟨exp_pos, exp_lt⟩
  have result := ifixieeeResult_of_finite (mode := mode) (v := v) (fun exp => absurd exp exp_pos.ne') exp_lt.ne
  have value := fpValue_eq_ratio exp_pos
  have den_ne : (fpDen v : ℚ) ≠ 0 := by exact_mod_cast (fpDen_pos v).ne'
  refine ⟨roundRatio mode (fpNum v) (fpDen v), ?_, fun above => ?_, fun below => ?_, fun ge le => ?_⟩
  · rw [value]
    exact roundsTo_roundRatio mode (fpNum v) (fpDen_pos v)
  · rw [result, convertRounded_of_above above]
  · rw [result, convertRounded_of_below below]
  · refine ⟨_, _, result.trans (convertRounded_of_inRange ge le), ?_, ?_⟩
    · exact BitVec.toInt_ofInt_eq_self (by decide) ge (by omega)
    · rw [decide_eq_true_eq, value, ne_eq, ne_eq, eq_div_iff den_ne]
      exact_mod_cast Iff.rfl

theorem fpDen_of_large {v : Word} (h : 150 ≤ fpExp v) : fpDen v = 1 := by
  rw [fpDen, Nat.sub_eq_zero_of_le h, pow_zero]

/-- A finite operand of magnitude 2^23 or more is an integer, which no mode changes (R174). -/
theorem ifixieeeResult_of_large {v : Word} (mode : RoundingMode) (large : 150 ≤ fpExp v) (finite : fpExp v ≠ 255) :
    ifixieeeResult mode v = convertRounded (fpNum v) false := by
  rw [ifixieeeResult_of_finite (by omega) finite, fpDen_of_large large, roundRatio_one]
  simp

/-- Settles O29: a large operand is a NaN, an infinity or an integer, and the result of each names no mode. -/
theorem ifixieeeLargeOperandsAreExact : Obligations.IfixieeeLargeOperandsAreExact := by
  intro mode mode' v large
  by_cases special : fpExp v = 255
  · by_cases frac : fpFrac v = 0
    · simp only [ifixieeeResult_of_inf special frac, and_self]
    · simp only [ifixieeeResult_of_nan special frac, and_self]
  · simp only [ifixieeeResult_of_large _ large special, convertRounded_inx_of_exact, and_self]

end Sys2Proof.Machine
end

section
/-! PROOFS for 44_dmem.md: the misaligned 16-bit store (R195, R240, R243, R249) and prefd (R190, R191). -/

namespace Sys2Proof.Machine

/-! ### A misaligned store -/

theorem misaligned_of_odd {a : Word} (odd : a.toNat % 2 = 1) : misaligned a = true := by
  simp [misaligned, BitVec.getLsbD, Nat.testBit_zero, odd]

/-- A misaligned store goes on whether or not it touches the MMIO aperture (R249). -/
theorem State.storeHalf_of_misaligned {s : State} {a : Word} (h : misaligned a = true) (v : Word) :
    s.storeHalf a v = .next (s.storeMisaligned a v) :=
  if_pos h

theorem exec_st16_of_misaligned {g : Option RegNo} {a : RegNo} {s : State} (hg : s.guardHolds g = true)
    (h : misaligned (s.readReg a) = true) (b : RegNo) (k : Nat) :
    exec (.st16 g a b k) s = .next (s.storeMisaligned (s.readReg a) (s.readReg b)) := by
  rw [exec_st16, State.storeHalfWhen_of_guard_true hg, State.storeHalf_of_misaligned h]

theorem State.read_storeMisaligned_of_forall_ne (s : State) (a v : Word) {x : Nat}
    (h : ∀ c ∈ Config.misalignedCells s.draws a v, x ≠ c.1.toNat) :
    (s.storeMisaligned a v).mem.read x = s.mem.read x := by
  rw [State.storeMisaligned_mem, Memory.read_writeCells_of_forall_ne _ _ h]

/-- Settles O39: the next state is `storeMisaligned`, whose bytes of memory are the free ones (log 10). -/
theorem misalignedStoreRaisesTheException : Obligations.MisalignedStoreRaisesTheException := by
  intro g a b k s hg odd
  exact ⟨exec_hSt16d_zero g a b k s, _, exec_st16_of_misaligned hg (misaligned_of_odd odd) b k, rfl,
    fun _ free => s.read_storeMisaligned_of_forall_ne _ _ free⟩

/-! ### The block of a prefetch -/

/-- A block size of `2 ^ n`, less 1, has the bits below `n`. -/
theorem blockSize_sub_one_getElem {n i : Nat} (hn : n < 32) (hi : i < 32) :
    (BitVec.ofNat 32 (2 ^ n) - 1)[i] = decide (i < n) := by
  have fits : 2 ^ n < 2 ^ 32 := Nat.pow_lt_pow_right (by decide) hn
  have pos : 0 < 2 ^ n := Nat.two_pow_pos n
  have value : (BitVec.ofNat 32 (2 ^ n) - 1).toNat = 2 ^ n - 1 := by bv_omega
  rw [BitVec.getElem_eq_testBit_toNat, value, Nat.testBit_two_pow_sub_one]

/-- The mask of R190 clears the bits below the block size, as a shift right and back does. -/
theorem cacheBlock_eq_shift {c : Config} {n : Nat} (size : c.cacheBlockSize = 2 ^ n) (hn : n < 32) (a : Word) :
    cacheBlock c a = (a >>> n) <<< n := by
  rw [cacheBlock, size]
  ext i hi
  rw [BitVec.getElem_and, BitVec.getElem_not, blockSize_sub_one_getElem hn]
  by_cases low : i < n
  · simp [low]
  · have back : n + (i - n) = i := by omega
    simp [low, back, BitVec.getLsbD_eq_getElem hi]

theorem cacheBlock_toNat {c : Config} {n : Nat} (size : c.cacheBlockSize = 2 ^ n) (hn : n < 32) (a : Word) :
    (cacheBlock c a).toNat = a.toNat / 2 ^ n * 2 ^ n := by
  have below : a.toNat / 2 ^ n * 2 ^ n < 2 ^ 32 := (Nat.div_mul_le_self _ _).trans_lt a.isLt
  rw [cacheBlock_eq_shift size hn, BitVec.toNat_shiftLeft, BitVec.toNat_ushiftRight, Nat.shiftRight_eq_div_pow,
    Nat.shiftLeft_eq, Nat.mod_eq_of_lt below]

/-- Settles O42: the block is the address divided by the block size, rounded down, times the block size. -/
theorem prefdBlockHoldsTheAddress : Obligations.PrefdBlockHoldsTheAddress := by
  intro c n x d size hn
  rw [prefdBlock, cacheBlock_toNat size hn]
  exact ⟨Nat.mul_mod_left _ _, Nat.div_mul_le_self _ _, Nat.lt_div_mul_add (Nat.two_pow_pos n)⟩

/-! ### The prefetch -/

/-- The data cache is not architectural state (R48, D24). -/
@[simp] theorem State.prefetch_eq_self (s : State) (block : Word) : s.prefetch block = s := rfl

theorem exec_prefd_of_guard_true {g : Option RegNo} {s : State} (h : s.guardHolds g = true) (a : RegNo) (d : Int)
    (k : Nat) : exec (.prefd g a d k) s = .next (s.prefetch (prefdBlock s.cfg (s.readReg a) d)) :=
  congrArg Host.Outcome.next (if_pos h)

/-- Settles O41, by the guard: a true one asks for the block, which reaches no state, and a false one does nothing. -/
theorem prefdChangesNothing : Obligations.PrefdChangesNothing := by
  intro c g a d k s
  refine ⟨rfl, rfl, ?_⟩
  cases hg : s.guardHolds g with
  | false => exact exec_of_guard_false hg rfl rfl
  | true => rw [exec_prefd_of_guard_true hg, State.prefetch_eq_self]

end Sys2Proof.Machine
end

section
/-! PROOFS for 45_const.md: uimm (R210), and how its constant reaches the next instruction, from what step 1 of R352 does
to a register whose result is due and from the step of an instruction of one operation. -/

namespace Sys2Proof.Machine

/-- A `uimm` has no guard, so it issues its modifier in every state. -/
theorem exec_uimm (n : Nat) (d : RegNo) (k : Nat) (s : State) :
    exec (.uimm n d k) s = .next (s.issue d 1 (BitVec.ofNat 32 n) noFlags) :=
  exec_of_guard_true (i := .uimm n d k) rfl rfl rfl rfl

/-- Settles O22: the form MD has no guard field (R108), and a modifier below 2^32 is the number of its word. -/
theorem uimmResult : Obligations.UimmResult := by
  intro c n d k s
  exact ⟨decode_encode (.uimm n d k), fun _ _ => rfl, rfl, BitVec.ofNat 32 n, exec_uimm n d k s,
    Nat.mod_eq_of_lt⟩

/-! ### A result that is due -/

/-- Step 1 of R352 leaves in a register the value of a result due for it, where no other value is due for it. -/
theorem State.fileReg_commit_of_due {s : State} {p : InFlight} (hp : p ∈ s.pending) (due : p.due = s.ip)
    (lt : p.dest < s.nRegs) (alone : ∀ q ∈ s.pending, q.due = s.ip → q.dest = p.dest → q.value = p.value) :
    s.commit.fileReg p.dest = p.value := by
  have due_of_mem : ∀ {q}, q ∈ s.pending.filter (fun q => q.due == s.ip) → q ∈ s.pending ∧ q.due = s.ip :=
    fun h => ⟨List.mem_of_mem_filter h, beq_iff_eq.1 (List.mem_filter.1 h).2⟩
  have sorted : (s.pending.filter fun q => q.due == s.ip).Pairwise fun x y => x.due ≤ y.due :=
    List.pairwise_of_forall_mem_list fun x hx y hy => by rw [(due_of_mem hx).2, (due_of_mem hy).2]
  refine State.fileReg_commitResults_of_last (s := s) sorted (List.mem_filter.2 ⟨hp, beq_iff_eq.2 due⟩) lt ?_
  intro q hq dest
  obtain ⟨mem, now⟩ := due_of_mem hq
  exact .inr (alone q mem now dest)

/-- A register whose results in flight are all due has none in flight after step 1 of R352. -/
theorem State.inFlight_commit_of_due {s : State} {r : RegNo} (due : ∀ p ∈ s.pending, p.dest = r → p.due = s.ip) :
    s.commit.inFlight r = false := by
  rw [State.inFlight, State.commit_pending, List.any_eq_false]
  intro p hp dest
  obtain ⟨mem, later⟩ := List.mem_filter.1 hp
  exact bne_iff_ne.1 later (due p mem (beq_iff_eq.1 dest))

theorem hardwired_of_two_le (c : Config) : ∀ {r : RegNo}, 2 ≤ r → hardwired c r = none
  | _ + 2, _ => rfl

/-- The operations of an instruction read the value that is due for a register, where nothing else is in flight
for it. -/
theorem State.readReg_commit_of_due {s : State} {p : InFlight} (hp : p ∈ s.pending) (ge : 2 ≤ p.dest)
    (lt : p.dest < s.nRegs) (due : ∀ q ∈ s.pending, q.dest = p.dest → q.due = s.ip)
    (alone : ∀ q ∈ s.pending, q.dest = p.dest → q.value = p.value) : s.commit.readReg p.dest = p.value := by
  rw [State.readReg_of_not_inWindow (hardwired_of_two_le _ ge)
    (State.inWindow_of_not_inFlight (State.inFlight_commit_of_due due))]
  exact State.fileReg_commit_of_due hp (due p hp rfl) lt fun q hq _ => alone q hq

/-- An instruction leaves the registers as step 1 of R352 left them: what it computes is in flight (R350). -/
theorem step_regs_of_fetch {s t : State} {recs : List OpRecord} (turn : s.onTurn) (hf : s.fetch = some recs)
    (h : step s = .next t) : t.regs = s.commit.regs := by
  obtain ⟨u, -, hu, rfl⟩ := step_of_fetch_eq_next turn hf h
  rw [State.advance_regs, execOperations_frame hu, State.prepare_regs]

/-- After an instruction the next step is again the DSPCPU's: no operation adds a unit event or powers down. -/
theorem step_onTurn_of_fetch {s t : State} {recs : List OpRecord} (turn : s.onTurn) (hf : s.fetch = some recs)
    (h : step s = .next t) : t.onTurn := by
  obtain ⟨u, -, hu, rfl⟩ := step_of_fetch_eq_next turn hf h
  rw [State.onTurn, State.advance_agenda, State.advance_globalPowerDown, execOperations_frame hu]
  simpa using turn

/-! ### An instruction of one `uimm` -/

theorem operationsOf_encode (i : Instr) : operationsOf [encode i] = [i] := by
  simp [operationsOf, decode_encode, Except.toOption]

/-- The next state of an instruction of one operation. -/
theorem step_of_single_eq_next {s t : State} {i : Instr} (turn : s.onTurn) (hf : s.fetch = some [encode i])
    (h : step s = .next t) :
    ∃ u, exec i (s.prepare [i]) = .next u ∧ t = { u with draws := u.draws + 1 }.advance := by
  obtain ⟨v, -, hv, rfl⟩ := step_of_fetch_eq_next turn hf h
  rw [operationsOf_encode] at hv
  obtain ⟨w, hw, last⟩ := andThen_eq_next hv
  obtain ⟨u, hu, rfl⟩ := execOperation_eq_next hw
  cases last
  exact ⟨u, hu, rfl⟩

/-- An instruction of one `uimm` adds its constant, due at the next instruction, to the results that stay in flight; where
all results for its destination are due, none of them contends with it. -/
theorem step_pending_of_uimm {s t : State} {n : Nat} {d : RegNo} {k : Nat} (turn : s.onTurn)
    (hf : s.fetch = some [encode (.uimm n d k)]) (due : ∀ p ∈ s.pending, p.dest = d → p.due = s.ip)
    (h : step s = .next t) :
    t.ip = s.ip + 1 ∧ t.pending = s.commit.pending ++ [s.resultRecord d 1 (BitVec.ofNat 32 n) noFlags] := by
  obtain ⟨u, hu, rfl⟩ := step_of_single_eq_next turn hf h
  rw [exec_uimm] at hu
  cases hu
  have free : (s.prepare [.uimm n d k]).inFlight d = false := State.inFlight_commit_of_due due
  rw [State.advance_ip, State.advance_pending]
  refine ⟨by simp, ?_⟩
  rw [State.issue_pending_of_free free, State.resultRecord, State.resultRecord, State.prepare_ip,
    State.prepare_pending, State.commit_pending]

/-- Settles O35: the constant is the one result in flight for its register, and it is due when the next instruction
starts. -/
theorem uimmIsVisibleToTheNextInstruction : Obligations.UimmIsVisibleToTheNextInstruction := by
  intro s t u n d k recs turn hf wf due hstep hf'
  obtain ⟨ip, pending⟩ := step_pending_of_uimm turn hf due hstep
  obtain ⟨-, -, -, -, nRegs⟩ := step_sameRun hstep
  obtain ⟨ge, lt⟩ := Instr.dest_of_formOk (Instr.wf_iff.1 wf).1 rfl
  rw [← nRegs] at lt
  have mem : s.resultRecord d 1 (BitVec.ofNat 32 n) noFlags ∈ t.pending := by simp [pending]
  have only : ∀ q ∈ t.pending, q.dest = d → q = s.resultRecord d 1 (BitVec.ofNat 32 n) noFlags := by
    intro q hq dest
    rw [pending] at hq
    rcases List.mem_append.1 hq with old | new
    · have free := State.inFlight_commit_of_due due
      exact absurd (beq_iff_eq.2 dest) (List.any_eq_false.1 free q old)
    · exact List.mem_singleton.1 new
  have now : ∀ q ∈ t.pending, q.dest = d → q.due = t.ip := fun q hq dest => by rw [only q hq dest, ip]; rfl
  have value : ∀ q ∈ t.pending, q.dest = d → q.value = BitVec.ofNat 32 n := fun q hq dest => by rw [only q hq dest]; rfl
  refine ⟨State.readReg_commit_of_due mem ge lt now value, fun hstep' => ?_⟩
  have regs := step_regs_of_fetch (step_onTurn_of_fetch turn hf hstep) hf' hstep'
  rw [State.fileReg, regs]
  exact State.fileReg_commit_of_due mem (now _ mem rfl) lt fun q hq _ => value q hq

end Sys2Proof.Machine
end

section
/-! PROOFS for 46_named_only.md: the operations that the source names and does not define (R215, R217 to R222), from what
exec answers for any operation that has only a name. -/

namespace Sys2Proof.Machine

/-- An operation that is only named has no meaning in any state: exec answers with its name. -/
theorem exec_of_namedOnly {i : Instr} {m : TextualOp} (named : i.namedOnly = some m) (s : State) :
    exec i s = .refused (.unspecifiedOperation m) := by
  cases i with
  | hSt16d | st16 | carry | mergemsb | ume8ii | hDspiabs | dspiabs | ifixieee | cycles | uimm | prefd | quadavg
  | dspuquadaddui => cases named
  | _ => cases named; rfl

/-- Settles O14: each of the twenty-one operations is only named. -/
theorem namedOnlyOperationsAreRefused : Obligations.NamedOnlyOperationsAreRefused := by
  intro k s
  and_intros <;> exact exec_of_namedOnly rfl s

end Sys2Proof.Machine
end

section
/-! PROOFS for 60_exceptions.md, parts 1 and 2: the one synchronous exception (R240, R241, R249), from what one operation
can do to MSE and the exception request. -/

namespace Sys2Proof.Machine

/-- MSE and the exception request are as they were, or MSE is set and one of the operations is a 16-bit store. -/
abbrev State.RaisedByStores (s t : State) (ops : List Instr) : Prop :=
  (t.pcsw.mse = s.pcsw.mse ∧ t.excPending = s.excPending) ∨
    (t.pcsw.mse = true ∧ ∃ i ∈ ops, i.storeAddressReg.isSome = true)

/-- Of the effects of an operation only a misaligned store reaches MSE and the exception request (R240, R249). -/
theorem Effect.raisedByStores {s t : State} {i : Instr} (e : Effect s i t) : s.RaisedByStores t [i] := by
  cases e with
  | nothing | storesAligned => exact .inl ⟨rfl, rfl⟩
  | issues => exact .inl ⟨by rw [State.issue_pcsw], by rw [State.issue_excPending]⟩
  | storesMisaligned r v hr => exact .inr ⟨rfl, i, List.mem_singleton_self i, by rw [hr]; rfl⟩

/-- One more operation: what a store has raised stays (R39). -/
theorem State.RaisedByStores.effect {s u w : State} {ops : List Instr} {i : Instr} (h : s.RaisedByStores u ops)
    (hi : i ∈ ops) (e : Effect u i w) : s.RaisedByStores w ops := by
  rcases h with ⟨mse, exc⟩ | ⟨mse, store⟩
  · rcases e.raisedByStores with ⟨mse', exc'⟩ | ⟨mse', j, hj, store⟩
    · exact .inl ⟨mse'.trans mse, exc'.trans exc⟩
    · exact .inr ⟨mse', i, hi, List.mem_singleton.1 hj ▸ store⟩
  · exact .inr ⟨e.pcsw_grows.1.mse mse, store⟩

theorem execOperations_raisedByStores {ops : List Instr} {s t : State} (h : execOperations ops s = .next t) :
    s.RaisedByStores t ops := by
  refine execOperations_induct (P := fun u => s.RaisedByStores u ops) h (.inl ⟨rfl, rfl⟩) fun i hi u w raised e => ?_
  have raised' : s.RaisedByStores w ops := raised.effect hi e
  exact raised'

/-- Results that reach PCSW carry no MSE (R42). -/
theorem State.commitResults_mse (s : State) (ps : List InFlight) : (s.commitResults ps).pcsw.mse = s.pcsw.mse := by
  rw [State.commitResults_pcsw]
  rfl

/-- A step that is no instruction leaves MSE and the exception request; one that is raises them by its stores. -/
theorem step_raisedByStores {s t : State} (h : step s = .next t) :
    (t.pcsw.mse = s.pcsw.mse ∧ t.excPending = s.excPending) ∨
      (s.onTurn ∧ ∃ recs, s.fetch = some recs ∧ s.RaisedByStores t (operationsOf recs)) := by
  rcases step_cases h with ⟨e, rest, u, -, he, rfl⟩ | ⟨-, -, rfl⟩ | ⟨-, -, rfl⟩ | ⟨recs, ops, u, turn, hf, hc, he, rfl⟩
  · rw [unitEvent_frame he]
    exact .inl ⟨rfl, rfl⟩
  · exact .inl ⟨rfl, rfl⟩
  · exact .inl ⟨s.commitResults_mse _, s.drain_excPending⟩
  · obtain ⟨rfl, -⟩ := checkInstruction_ok hc
    have raised := execOperations_raisedByStores he
    have mse : (s.prepare (operationsOf recs)).pcsw.mse = s.pcsw.mse := s.commitResults_mse _
    rw [State.RaisedByStores, mse, State.prepare_excPending] at raised
    exact .inr ⟨turn, recs, hf, raised⟩

/-- Settles O44: where MSE or the exception request has changed, an operation of the instruction is a store. -/
theorem onlyStoresRaiseTheException : Obligations.OnlyStoresRaiseTheException := by
  intro s t hstep raises
  have changed : ¬ (t.pcsw.mse = s.pcsw.mse ∧ t.excPending = s.excPending) := by
    rintro ⟨mse, exc⟩
    rw [mse, exc] at raises
    rcases raises with ⟨off, on⟩ | ⟨off, on⟩ <;> exact Bool.false_ne_true (off.symm.trans on)
  obtain ⟨turn, recs, hf, raised⟩ := (step_raisedByStores hstep).resolve_left changed
  obtain ⟨mse, i, hi, store⟩ := raised.resolve_left changed
  obtain ⟨r, hr, hd⟩ := mem_operationsOf.1 hi
  exact ⟨turn, mse, recs, r, i, hf, hr, hd, store⟩

end Sys2Proof.Machine
end

section
/-! PROOFS for 60_exceptions.md, part 3: what a unit's turn reaches (R330), global power down (R254, R255), acknowledges and
request lines (R247, R248, R302, R303), and the buffers of the capture units (R263 to R266, R305). -/

namespace Sys2Proof.Machine

/-! ### A unit's turn -/

theorem step_of_agenda {s : State} {e : UnitEvent} {rest : List UnitEvent} (ha : s.agenda = e :: rest) :
    step s = unitStep e { s with agenda := rest } := by
  simp [step, ha]

/-- Settles O53: neither the event nor the waking after it changes anything else. -/
theorem unitTurnsLeaveTheDspcpu : Obligations.UnitTurnsLeaveTheDspcpu := by
  intro s t e rest ha h
  rw [step_of_agenda ha] at h
  obtain ⟨u, hu, rfl⟩ := unitStep_eq_next h
  rw [unitEvent_frame hu]
  rfl

/-! ### Global power down -/

theorem step_of_asleep {s : State} (ha : s.agenda = []) (asleep : s.globalPowerDown = true) : step s = .next s := by
  simp [step, dspcpuStep, ha, asleep]

/-- A unit event can begin the global power down; only `State.wake` ends it (R254). -/
theorem unitEvent_globalPowerDown {e : UnitEvent} {s t : State} (h : unitEvent e s = .next t)
    (asleep : s.globalPowerDown = true) : t.globalPowerDown = true := by
  cases e with
  | enterGlobalPowerDown => cases h; rfl
  | viWriteSize | evoWriteCtl | evoWriteTiming | icpLoadTable | icpLoadParameters =>
    obtain ⟨u, -, rfl⟩ := orRefuse_eq_next h
    exact asleep
  | _ => cases h; exact asleep

theorem State.wake_globalPowerDown_of_asleep {s : State} (asleep : s.globalPowerDown = true) :
    s.wake.globalPowerDown = false ↔ s.units.request = true := by
  simp [State.wake, asleep]

theorem Units.request_iff {u : Units} : u.request = true ↔
    u.vi.requests = true ∨ u.evo.requests = true ∨ (u.ai.requests = true ∧ u.ai.powered = true) := by
  simp only [Units.request, Bool.or_eq_true, Bool.and_eq_true, or_assoc]

/-- Settles O60: the event leaves the DSPCPU asleep, and a request of a unit that is awake wakes it. -/
theorem audioInWakesTheDspcpu : Obligations.AudioInWakesTheDspcpu := by
  refine ⟨fun s => step_of_asleep, fun s t e rest ha asleep h => ?_⟩
  rw [step_of_agenda ha] at h
  obtain ⟨u, hu, rfl⟩ := unitStep_eq_next h
  rw [State.wake_globalPowerDown_of_asleep (unitEvent_globalPowerDown hu asleep), State.wake_units, Units.request_iff]

/-! ### Acknowledges and request lines -/

theorem CaptureBits.requests_iff (f enables : CaptureBits) : f.requests enables = true ↔
    (f.buf1Full = true ∧ enables.buf1Full = true) ∨ (f.buf2Full = true ∧ enables.buf2Full = true) ∨
      (f.overrun = true ∧ enables.overrun = true) ∨ (f.hbe = true ∧ enables.hbe = true) := by
  simp only [CaptureBits.requests, Bool.or_eq_true, Bool.and_eq_true, or_assoc]

/-- A condition asserts the request line where an acknowledge leaves it and it is enabled (R247, R248). -/
theorem left_and_enabled (set ack enable : Bool) :
    (set && !ack && enable) = true ↔ set = true ∧ enable = true ∧ ack = false := by
  simp only [Bool.and_eq_true, Bool.not_eq_true', and_assoc]
  exact and_congr_right' and_comm

/-- After an acknowledge the request line is asserted by each enabled condition that was set and is not acknowledged
(R247, R248). -/
theorem CaptureBits.requests_acknowledge (f acks enables : CaptureBits) :
    (f.acknowledge acks).requests enables = true ↔
      (f.buf1Full = true ∧ enables.buf1Full = true ∧ acks.buf1Full = false) ∨
      (f.buf2Full = true ∧ enables.buf2Full = true ∧ acks.buf2Full = false) ∨
      (f.overrun = true ∧ enables.overrun = true ∧ acks.overrun = false) ∨
      (f.hbe = true ∧ enables.hbe = true ∧ acks.hbe = false) := by
  simp only [CaptureBits.requests, CaptureBits.acknowledge, Bool.or_eq_true, or_assoc, left_and_enabled]

theorem EvoBits.requests_acknowledge (f acks enables : EvoBits) :
    (f.acknowledge acks).requests enables = true ↔
      (f.bfr1Empty = true ∧ enables.bfr1Empty = true ∧ acks.bfr1Empty = false) ∨
      (f.bfr2Empty = true ∧ enables.bfr2Empty = true ∧ acks.bfr2Empty = false) ∨
      (f.hbe = true ∧ enables.hbe = true ∧ acks.hbe = false) ∨
      (f.urun = true ∧ enables.urun = true ∧ acks.urun = false) ∨
      (f.ytr = true ∧ enables.ytr = true ∧ acks.ytr = false) := by
  simp only [EvoBits.requests, EvoBits.acknowledge, Bool.or_eq_true, or_assoc, left_and_enabled]

@[simp] theorem AudioIn.acknowledge_flags (u : AudioIn) (acks : CaptureBits) :
    (u.acknowledge acks).flags = u.flags.acknowledge acks := by
  unfold AudioIn.acknowledge
  dsimp only
  split <;> rfl

@[simp] theorem AudioIn.acknowledge_enables (u : AudioIn) (acks : CaptureBits) :
    (u.acknowledge acks).enables = u.enables := by
  unfold AudioIn.acknowledge
  dsimp only
  split <;> rfl

@[simp] theorem VideoIn.acknowledge_flags (u : VideoIn) (acks : CaptureBits) :
    (u.acknowledge acks).flags = u.flags.acknowledge acks := by
  unfold VideoIn.acknowledge
  dsimp only
  split <;> rfl

@[simp] theorem VideoIn.acknowledge_enables (u : VideoIn) (acks : CaptureBits) :
    (u.acknowledge acks).enables = u.enables := by
  unfold VideoIn.acknowledge
  dsimp only
  split <;> rfl

/-- Settles O56: an acknowledge is that of the flags, of which OVERRUN has a bit of its own. -/
theorem overrunIsClearedByItsAcknowledgeAlone : Obligations.OverrunIsClearedByItsAcknowledgeAlone := by
  intro s t b
  constructor
  · rintro ⟨⟩
    rw [State.setAi_units, AudioIn.acknowledge_flags, CaptureBits.acknowledge]
  · rintro ⟨⟩
    rw [State.setVi_units, VideoIn.acknowledge_flags, CaptureBits.acknowledge]

theorem CaptureBits.requests_eq_false_iff (f enables : CaptureBits) : f.requests enables = false ↔
    (f.buf1Full = true → enables.buf1Full = false) ∧ (f.buf2Full = true → enables.buf2Full = false) ∧
      (f.overrun = true → enables.overrun = false) ∧ (f.hbe = true → enables.hbe = false) := by
  simp only [← Bool.not_eq_true, CaptureBits.requests_iff, not_or, not_and]

/-- Every condition acknowledged, none is left. -/
theorem CaptureBits.requests_acknowledge_self (f enables : CaptureBits) :
    (f.acknowledge f).requests enables = false := by
  simp [CaptureBits.acknowledge, CaptureBits.requests]

/-- Settles O58: each request line is that of the flags and enables, which an acknowledge or a write of VO_CTL leaves as
`requests_acknowledge` says. -/
theorem requestLineIsLevelSensitive : Obligations.RequestLineIsLevelSensitive := by
  refine ⟨fun u => ⟨CaptureBits.requests_eq_false_iff _ _, ?_, fun acks => ?_⟩, fun u acks => ?_, fun u v w hv => ?_⟩
  · rw [AudioIn.requests, AudioIn.acknowledge_flags, CaptureBits.requests_acknowledge_self]
  · rw [AudioIn.requests, AudioIn.acknowledge_flags, AudioIn.acknowledge_enables, CaptureBits.requests_acknowledge]
  · rw [VideoIn.requests, VideoIn.acknowledge_flags, VideoIn.acknowledge_enables, CaptureBits.requests_acknowledge]
  · obtain ⟨-, -, -, -, -, enables, flags, -⟩ := VideoOut.writeCtl_eq_ok hv
    rw [VideoOut.requests, flags, enables, EvoBits.requests_acknowledge]

/-! ### The buffers of the capture units -/

@[simp] theorem CaptureBits.full_setFull (f : CaptureBits) (b : Buffer) : (f.setFull b).full b = true := by
  cases b <;> rfl

@[simp] theorem CaptureBits.full_setFull_other (f : CaptureBits) (b : Buffer) :
    (f.setFull b).full b.other = f.full b.other := by
  cases b <;> rfl

@[simp] theorem CaptureBits.overrun_setFull (f : CaptureBits) (b : Buffer) : (f.setFull b).overrun = f.overrun := by
  cases b <;> rfl

@[simp] theorem CaptureBits.full_setOverrun (f : CaptureBits) (on : Bool) (b : Buffer) :
    ({ f with overrun := on } : CaptureBits).full b = f.full b := by
  cases b <;> rfl

section
variable (c : Capture) {f : CaptureBits} (base1 base2 size : Word)

/-- The other buffer has been acknowledged: capture goes on there (R263). -/
theorem switchBuffer_of_acknowledged (h : f.full c.active.other = false) : switchBuffer c f base1 base2 size =
    (startBuffer c.active.other base1 base2 size, f.setFull c.active) := by
  simp [switchBuffer, h]

/-- The other buffer has not been acknowledged: OVERRUN, and capture stops (R264). -/
theorem switchBuffer_of_unacknowledged (h : f.full c.active.other = true) : switchBuffer c f base1 base2 size =
    ({ c with running := false }, { f.setFull c.active with overrun := true }) := by
  simp [switchBuffer, h]

end

/-- The sample that fills the active buffer ends the use of that buffer (R263). -/
theorem VideoIn.sample_of_fills {u : VideoIn} (captures : u.capturesRaw = true)
    (fills : u.capture.size.toNat ≤ u.capture.captured + 1) (x : BitVec 10) (m : Memory) :
    ∃ c : Capture, c.active = u.capture.active ∧
      (u.sample x m).1 = { u with capture := (switchBuffer c u.flags u.base1 u.base2 u.size).1,
                                  flags := (switchBuffer c u.flags u.base1 u.base2 u.size).2 } := by
  refine ⟨u.capture.advance (rawSampleBytes u.mode x).length 1, rfl, ?_⟩
  simp [VideoIn.sample, captures, settleBuffer, Capture.isFull, Capture.advance, fills]

theorem VideoIn.sample_of_stopped {u : VideoIn} (stopped : u.capture.running = false) (x : BitVec 10) (m : Memory) :
    u.sample x m = (u, m) := by
  simp [VideoIn.sample, VideoIn.capturesRaw, stopped]

/-- Settles O54, by whether the other buffer has been acknowledged. -/
theorem videoInExchangesBuffers : Obligations.VideoInExchangesBuffers := by
  intro u x m captures fills
  obtain ⟨c, active, sampled⟩ := VideoIn.sample_of_fills captures fills x m
  rw [← active]
  cases h : u.flags.full c.active.other with
  | false =>
    rw [sampled, switchBuffer_of_acknowledged _ _ _ _ h]
    exact ⟨CaptureBits.full_setFull _ _, fun _ => ⟨rfl, CaptureBits.overrun_setFull _ _⟩, nofun⟩
  | true =>
    rw [sampled, switchBuffer_of_unacknowledged _ _ _ _ h]
    refine ⟨?_, nofun, fun _ => ⟨rfl, rfl, fun y n => VideoIn.sample_of_stopped rfl y n⟩⟩
    rw [CaptureBits.full_setOverrun]
    exact CaptureBits.full_setFull _ _

/-- Settles O55: of the three writes that of VI_SIZE may be refused, and each changes its register alone. -/
theorem videoInRegistersAreShadowed : Obligations.VideoInRegistersAreShadowed := by
  rintro s t e v (rfl | rfl | rfl) h
  · cases h; rfl
  · cases h; rfl
  · obtain ⟨u, hu, rfl⟩ := orRefuse_eq_next h
    unfold VideoIn.writeSize at hu
    split at hu <;> cases hu
    rfl

/-! ### The internal buffer of Audio In -/

theorem AudioIn.internalFull_iff {u : AudioIn} : u.internalFull = true ↔ 64 ≤ u.internalBuffer.length :=
  decide_eq_true_iff

/-- Settles O57, by where the sample finds room: in the internal buffer, in the input register, or nowhere. -/
theorem audioInHighwayError : Obligations.AudioInHighwayError := by
  intro u x samples noError
  rw [← AudioIn.internalFull_iff]
  cases full : u.internalFull with
  | false => simp [AudioIn.sample, samples, full, noError]
  | true => cases register : u.inputRegister <;> simp [AudioIn.sample, samples, full, register, noError]

end Sys2Proof.Machine
end

section
/-! PROOFS for 60_exceptions.md, part 3: the data modes of the Enhanced Video Out (R280 to R282, R287, R331), from what one
clock does with a byte, with the last byte of a message and with the last byte of a stream's buffer. -/

namespace Sys2Proof.Machine

/-- In the data modes the unit acts while VO_ENABLE is 1 and RESET is 0 (R282, R287). -/
theorem VideoOut.operates_of_dataMode {u : VideoOut} (mode : u.mode ≠ .videoRefresh) :
    u.operates = (!u.reset && u.voEnable) := by
  simp [VideoOut.operates, mode]

@[simp] theorem EvoBits.empty_setUrun (f : EvoBits) (on : Bool) (b : Buffer) :
    ({ f with urun := on } : EvoBits).empty b = f.empty b := by
  cases b <;> rfl

/-- The end of the message buffer (R282, R287). -/
theorem VideoOut.bufferEmpty_of_message {u : VideoOut} (operates : u.operates = true)
    (mode : u.mode = .messagePassing) : u.bufferEmpty .one =
      { u with flags := u.flags.setEmpty .one, voEnable := false, startSent := false, endSent := true,
               sending := { u.sending with phase := .idle } } := by
  simp [VideoOut.bufferEmpty, operates, mode]

theorem VideoOut.bufferEmpty_of_stream {u : VideoOut} (operates : u.operates = true) (mode : u.mode = .dataStreaming)
    (b : Buffer) : u.bufferEmpty b = u.exchange b := by
  simp [VideoOut.bufferEmpty, operates, mode]

theorem VideoOut.bufferEmpty_of_not_operates {u : VideoOut} (h : u.operates = false) (b : Buffer) :
    u.bufferEmpty b = u := by
  simp [VideoOut.bufferEmpty, h]

theorem VideoOut.exchange_of_acknowledged {u : VideoOut} {b : Buffer} (h : u.flags.empty b.other = false) :
    u.exchange b = { u with flags := u.flags.setEmpty b, sending := u.sendBuffer b.other .sending } := by
  simp [VideoOut.exchange, h]

theorem VideoOut.exchange_of_unacknowledged {u : VideoOut} {b : Buffer} (h : u.flags.empty b.other = true) :
    u.exchange b = { u with flags := { u.flags.setEmpty b with urun := true },
                            sending := { u.sending with phase := .exhausted } } := by
  simp [VideoOut.exchange, h]

/-- The unit with its next byte on the pins, before it is seen whether the buffer is empty (R280). -/
def VideoOut.byteOut (u : VideoOut) (m : Memory) : VideoOut :=
  { u with
    data := [unitByte m u.sending.pointer]
    io1Pulse := false
    sending := { u.sending with pointer := u.sending.pointer + 1, left := u.sending.left - 1 } }

theorem VideoOut.sendByte_eq (u : VideoOut) (m : Memory) : u.sendByte m =
    if u.sending.left - 1 = 0 then (u.byteOut m).bufferEmpty u.sending.active else u.byteOut m := rfl

section
variable {u : VideoOut} (reset : u.reset = false) (mode : u.mode ≠ .videoRefresh) (on : u.voEnable = true)
include reset mode on

theorem VideoOut.operates_of_enabled : u.operates = true := by
  rw [VideoOut.operates_of_dataMode mode, reset, on]
  rfl

theorem VideoOut.clock_of_sending (phase : u.sending.phase = .sending) (m : Memory) : u.clock m = u.sendByte m := by
  simp [VideoOut.clock, VideoOut.operates_of_enabled reset mode on, mode, phase]

/-- The last byte of a buffer goes out, and the buffer is empty. -/
theorem VideoOut.clock_of_last (phase : u.sending.phase = .sending) (last : u.sending.left = 1) (m : Memory) :
    u.clock m = (u.byteOut m).bufferEmpty u.sending.active := by
  rw [VideoOut.clock_of_sending reset mode on phase, VideoOut.sendByte_eq, last, if_pos rfl]

/-- The clock after the last byte of a stream that has ended sends nothing and withdraws data-valid (R281, log 28). -/
theorem VideoOut.clock_of_exhausted (phase : u.sending.phase = .exhausted) (m : Memory) :
    (u.clock m).data = [] ∧ (u.clock m).dataValid = false := by
  have ended : u.clock m = { u with data := [], io1Pulse := false, sending := { u.sending with phase := .idle } } := by
    simp [VideoOut.clock, VideoOut.operates_of_enabled reset mode on, mode, phase]
  rw [ended]
  exact ⟨rfl, by simp [VideoOut.dataValid]⟩

end

/-- What is on the pins stays through the end of a buffer. -/
theorem VideoOut.bufferEmpty_data (u : VideoOut) (b : Buffer) : (u.bufferEmpty b).data = u.data := by
  rw [(u.bufferEmpty_frame b).1]

theorem VideoOut.sendByte_data (u : VideoOut) (m : Memory) : (u.sendByte m).data = [unitByte m u.sending.pointer] := by
  rw [VideoOut.sendByte_eq]
  split
  · rw [VideoOut.bufferEmpty_data]
    rfl
  · rfl

/-- With more bytes left in the buffer nothing is emptied. -/
theorem VideoOut.sendByte_of_more {u : VideoOut} (more : 1 < u.sending.left) (m : Memory) :
    u.sendByte m = u.byteOut m := by
  rw [VideoOut.sendByte_eq, if_neg (by omega)]

/-- A message that has ended stops the unit for every event of clocks, lines, fields and the highway (R282). -/
theorem VideoOut.stopped_after_message {u : VideoOut} (mode : u.mode = .messagePassing) (off : u.voEnable = false)
    (m : Memory) : u.clock m = u ∧ u.pixelTime m = u ∧ u.endOfField = u ∧ u.highwayError = u ∧
      u.imageEmpty .one = u ∧ u.frameEdge = u := by
  have stopped : u.operates = false := by rw [VideoOut.operates_of_dataMode (by simp [mode]), off, Bool.and_false]
  refine ⟨?_, ?_, ?_, ?_, ?_, ?_⟩
  · simp [VideoOut.clock, stopped]
  · simp [VideoOut.pixelTime, stopped]
  · simp [VideoOut.endOfField, stopped]
  · simp [VideoOut.highwayError, stopped]
  · simp [VideoOut.imageEmpty, mode]
  · simp [VideoOut.frameEdge, mode]

theorem VideoOut.writeCtl_of_resetWithEnable {w : VoCtlWrite} (reset : w.reset = true) (on : w.voEnable = true)
    (u : VideoOut) : u.writeCtl w = .error .voResetWithEnable := by
  simp [VideoOut.writeCtl, VoCtlWrite.resetOk, reset, on]

/-- The last byte of a stream's buffer is followed by the other buffer (R331). -/
theorem VideoOut.clock_of_stream_acknowledged {u : VideoOut} (reset : u.reset = false)
    (mode : u.mode = .dataStreaming) (on : u.voEnable = true) (phase : u.sending.phase = .sending)
    (last : u.sending.left = 1) (acknowledged : u.flags.empty u.sending.active.other = false) (m : Memory) :
    u.clock m = { u.byteOut m with
      flags := u.flags.setEmpty u.sending.active, sending := u.sendBuffer u.sending.active.other .sending } := by
  have dataMode : u.mode ≠ .videoRefresh := by simp [mode]
  rw [VideoOut.clock_of_last reset dataMode on phase last,
    VideoOut.bufferEmpty_of_stream (VideoOut.operates_of_enabled (u := u.byteOut m) reset dataMode on) mode]
  exact VideoOut.exchange_of_acknowledged acknowledged

/-- Without the other buffer the last byte raises URUN and nothing is left to send (R331, log 28). -/
theorem VideoOut.clock_of_stream_unacknowledged {u : VideoOut} (reset : u.reset = false)
    (mode : u.mode = .dataStreaming) (on : u.voEnable = true) (phase : u.sending.phase = .sending)
    (last : u.sending.left = 1) (unacknowledged : u.flags.empty u.sending.active.other = true) (m : Memory) :
    u.clock m = { u.byteOut m with
      flags := { u.flags.setEmpty u.sending.active with urun := true },
      sending := { (u.byteOut m).sending with phase := .exhausted } } := by
  have dataMode : u.mode ≠ .videoRefresh := by simp [mode]
  rw [VideoOut.clock_of_last reset dataMode on phase last,
    VideoOut.bufferEmpty_of_stream (VideoOut.operates_of_enabled (u := u.byteOut m) reset dataMode on) mode]
  exact VideoOut.exchange_of_unacknowledged unacknowledged

/-- The last byte of a message ends it (R282, R287). -/
theorem VideoOut.clock_of_message_end {u : VideoOut} (reset : u.reset = false) (mode : u.mode = .messagePassing)
    (on : u.voEnable = true) (phase : u.sending.phase = .sending) (active : u.sending.active = .one)
    (last : u.sending.left = 1) (m : Memory) :
    u.clock m = { u.byteOut m with
      flags := u.flags.setEmpty .one, voEnable := false, startSent := false, endSent := true,
      sending := { (u.byteOut m).sending with phase := .idle } } := by
  have dataMode : u.mode ≠ .videoRefresh := by simp [mode]
  rw [VideoOut.clock_of_last reset dataMode on phase last, active]
  exact VideoOut.bufferEmpty_of_message (VideoOut.operates_of_enabled (u := u.byteOut m) reset dataMode on) mode

/-- Settles O59: the five parts are the end of a message buffer, the refusal of U7, a byte sent, the end of a message and the
end of a stream's buffer, the last by whether the other buffer has been acknowledged. -/
theorem videoOutMessageEnds : Obligations.VideoOutMessageEnds := by
  refine ⟨?bufferEmpty, ?refused, ?bytes, ?messageEnd, ?stream⟩
  case bufferEmpty =>
    intro u reset mode on
    have ended := VideoOut.bufferEmpty_of_message (VideoOut.operates_of_enabled reset (by simp [mode]) on) mode
    rw [ended]
    refine ⟨rfl, rfl, VideoOut.bufferEmpty_of_not_operates ?_ .one⟩
    rw [VideoOut.operates_of_dataMode (by simp [mode]), Bool.and_false]
  case refused =>
    intro s w reset on
    exact congrArg (orRefuse · s.setEvo) (VideoOut.writeCtl_of_resetWithEnable reset on s.units.evo)
  case bytes =>
    intro u m reset mode on phase
    rw [VideoOut.clock_of_sending reset mode on phase]
    refine ⟨u.sendByte_data m, fun more => ?_⟩
    rw [VideoOut.sendByte_of_more more]
    exact ⟨rfl, rfl, rfl⟩
  case messageEnd =>
    intro u m reset mode on phase active last
    rw [VideoOut.clock_of_message_end reset mode on phase active last]
    exact ⟨rfl, rfl, rfl, VideoOut.stopped_after_message mode rfl⟩
  case stream =>
    intro u m reset mode on phase last
    cases h : u.flags.empty u.sending.active.other with
    | false =>
      rw [VideoOut.clock_of_stream_acknowledged reset mode on phase last h]
      exact ⟨EvoBits.empty_setEmpty _ _, fun _ => ⟨rfl, EvoBits.urun_setEmpty _ _⟩, nofun⟩
    | true =>
      rw [VideoOut.clock_of_stream_unacknowledged reset mode on phase last h]
      refine ⟨?_, nofun, fun _ => ⟨rfl, fun n => ?_⟩⟩
      · rw [EvoBits.empty_setUrun]
        exact EvoBits.empty_setEmpty _ _
      · have dataMode : u.mode ≠ .videoRefresh := by simp [mode]
        refine VideoOut.clock_of_exhausted ?_ ?_ ?_ ?_ n
        exacts [reset, dataMode, on, rfl]

end Sys2Proof.Machine
end

section
/-! PROOFS for 60_exceptions.md, part 3: every step keeps the registers of the capture units 64-byte aligned (R267, R300)
and the output units sound (R285, R287, R292, R316 to R322, R326 to R328). -/

namespace Sys2Proof.Machine

/-- What a unit event keeps of the units, every step keeps: nothing else reaches them. -/
theorem step_keeps_units {P : Units → Prop}
    (keep : ∀ {e : UnitEvent} {s t : State}, unitEvent e s = .next t → P s.units → P t.units)
    {s t : State} (h : step s = .next t) (hs : P s.units) : P t.units := by
  rcases step_cases h with ⟨e, rest, u, -, he, rfl⟩ | ⟨-, -, rfl⟩ | ⟨-, -, rfl⟩ | ⟨recs, ops, u, -, -, -, he, rfl⟩
  · have kept : P u.units := keep he hs
    exact kept
  · exact hs
  · rwa [State.drain_units]
  · rwa [State.advance_units, execOperations_frame he, State.prepare_units]

/-! ### The capture units -/

theorem is64Aligned_align64 (v : Word) : is64Aligned (align64 v) := by
  have mask : (~~~63#32).extractLsb' 0 6 = 0#6 := by decide
  rw [is64Aligned, align64, BitVec.extractLsb'_and, mask, BitVec.and_zero]
  rfl

/-- The address and size registers of Video In hold 64-byte aligned values (R267). -/
structure VideoIn.RegistersAligned (u : VideoIn) : Prop where
  base1 : is64Aligned u.base1
  base2 : is64Aligned u.base2
  size : is64Aligned u.size

/-- The address and size registers of Audio In hold 64-byte aligned values (R300). -/
structure AudioIn.RegistersAligned (u : AudioIn) : Prop where
  base1 : is64Aligned u.base1
  base2 : is64Aligned u.base2
  size : is64Aligned u.size

theorem State.unitsAligned_iff {s : State} :
    s.unitsAligned ↔ s.units.vi.RegistersAligned ∧ s.units.ai.RegistersAligned := by
  constructor
  · rintro ⟨vi1, vi2, vi3, ai1, ai2, ai3⟩
    exact ⟨⟨vi1, vi2, vi3⟩, ai1, ai2, ai3⟩
  · rintro ⟨⟨vi1, vi2, vi3⟩, ai1, ai2, ai3⟩
    exact ⟨vi1, vi2, vi3, ai1, ai2, ai3⟩

namespace VideoIn.RegistersAligned
variable {u : VideoIn} (h : u.RegistersAligned)
include h

theorem setCaptureEnable (on : Bool) : (u.setCaptureEnable on).RegistersAligned := by
  unfold VideoIn.setCaptureEnable
  split <;> exact { h with }

theorem acknowledge (acks : CaptureBits) : (u.acknowledge acks).RegistersAligned := by
  unfold VideoIn.acknowledge
  dsimp only
  split <;> exact { h with }

theorem sample (x : BitVec 10) (m : Memory) : (u.sample x m).1.RegistersAligned := by
  unfold VideoIn.sample
  split <;> exact { h with }

theorem highwayOverflow : u.highwayOverflow.RegistersAligned := by
  unfold VideoIn.highwayOverflow
  split <;> exact { h with }

theorem messageStart : u.messageStart.RegistersAligned := by
  unfold VideoIn.messageStart
  split <;> exact { h with }

theorem messageByte (b : Byte) (m : Memory) : (u.messageByte b m).1.RegistersAligned := by
  unfold VideoIn.messageByte
  split <;> exact { h with }

theorem writeSize {v : Word} {w : VideoIn} (hw : u.writeSize v = .ok w) : w.RegistersAligned := by
  unfold VideoIn.writeSize at hw
  split at hw <;> cases hw
  exact { h with size := is64Aligned_align64 v }

end VideoIn.RegistersAligned

/-- A soft reset may leave any value, of which the six LSBs are cleared (U10, log 27). -/
theorem VideoIn.registersAligned_aligned (u : VideoIn) : u.aligned.RegistersAligned :=
  ⟨is64Aligned_align64 _, is64Aligned_align64 _, is64Aligned_align64 _⟩

namespace AudioIn.RegistersAligned
variable {u : AudioIn} (h : u.RegistersAligned)
include h

theorem writeCtl (capEnable sleepless diagMode : Bool) :
    (u.writeCtl capEnable sleepless diagMode).RegistersAligned := by
  unfold AudioIn.writeCtl
  dsimp only
  split <;> exact { h with }

theorem acknowledge (acks : CaptureBits) : (u.acknowledge acks).RegistersAligned := by
  unfold AudioIn.acknowledge
  dsimp only
  split <;> exact { h with }

theorem sample (x : Word) : (u.sample x).RegistersAligned := by
  unfold AudioIn.sample
  split
  · split
    · exact { h with }
    · split <;> exact { h with }
  · exact h

theorem highwayGrant (m : Memory) : (u.highwayGrant m).1.RegistersAligned := by
  unfold AudioIn.highwayGrant
  split <;> exact { h with }

end AudioIn.RegistersAligned

theorem AudioIn.registersAligned_aligned (u : AudioIn) : u.aligned.RegistersAligned :=
  ⟨is64Aligned_align64 _, is64Aligned_align64 _, is64Aligned_align64 _⟩

theorem unitEvent_keeps_vi_aligned {e : UnitEvent} {s t : State} (h : unitEvent e s = .next t)
    (vi : s.units.vi.RegistersAligned) : t.units.vi.RegistersAligned := by
  cases e with
  | viWriteBase1 v => cases h; exact { vi with base1 := is64Aligned_align64 v }
  | viWriteBase2 v => cases h; exact { vi with base2 := is64Aligned_align64 v }
  | viWriteSize v =>
    obtain ⟨u, hu, rfl⟩ := orRefuse_eq_next h
    exact vi.writeSize hu
  | viSetMode | viWriteEnables | viMessageEnd => cases h; exact { vi with }
  | viSetCaptureEnable on => cases h; exact vi.setCaptureEnable on
  | viAck b => cases h; exact vi.acknowledge b
  | viSample x => cases h; exact vi.sample x _
  | viHighwayOverflow => cases h; exact vi.highwayOverflow
  | viMessageStart => cases h; exact vi.messageStart
  | viMessageByte b => cases h; exact vi.messageByte b _
  | viSoftReset => cases h; exact { VideoIn.registersAligned_aligned _ with }
  | evoWriteCtl | evoWriteTiming | icpLoadTable | icpLoadParameters =>
    obtain ⟨u, -, rfl⟩ := orRefuse_eq_next h
    exact vi
  | _ => cases h; exact vi

theorem unitEvent_keeps_ai_aligned {e : UnitEvent} {s t : State} (h : unitEvent e s = .next t)
    (ai : s.units.ai.RegistersAligned) : t.units.ai.RegistersAligned := by
  cases e with
  | aiWriteBase1 v => cases h; exact { ai with base1 := is64Aligned_align64 v }
  | aiWriteBase2 v => cases h; exact { ai with base2 := is64Aligned_align64 v }
  | aiWriteSize v => cases h; exact { ai with size := is64Aligned_align64 v }
  | aiWriteEnables | aiBlockPowerDown | enterGlobalPowerDown => cases h; exact { ai with }
  | aiWriteCtl c sl d => cases h; exact ai.writeCtl c sl d
  | aiAck b => cases h; exact ai.acknowledge b
  | aiSample x ao => cases h; exact ai.sample _
  | aiHighwayGrant => cases h; exact ai.highwayGrant _
  | aiSoftReset => cases h; exact { AudioIn.registersAligned_aligned _ with }
  | viWriteSize | evoWriteCtl | evoWriteTiming | icpLoadTable | icpLoadParameters =>
    obtain ⟨u, -, rfl⟩ := orRefuse_eq_next h
    exact ai
  | _ => cases h; exact ai

theorem step_keeps_unitsAligned {s t : State} (h : step s = .next t) (aligned : s.unitsAligned) : t.unitsAligned := by
  rw [State.unitsAligned_iff] at aligned ⊢
  obtain ⟨vi, ai⟩ := aligned
  exact ⟨step_keeps_units (P := fun u => u.vi.RegistersAligned) unitEvent_keeps_vi_aligned h vi,
    step_keeps_units (P := fun u => u.ai.RegistersAligned) unitEvent_keeps_ai_aligned h ai⟩

/-! ### Enhanced Video Out -/

/-- Soundness speaks of registers, and of VO_ENABLE only where it is 1. -/
theorem VideoOut.sound_of_sameRegisters {u v : VideoOut} (h : u.sound) (base1 : v.base1 = u.base1)
    (base2 : v.base2 = u.base2) (pixelStart : v.videoPixelStart = u.videoPixelStart) (reset : v.reset = u.reset)
    (mode : v.mode = u.mode) (enables : v.enables = u.enables) (voEnable : v.voEnable = true → u.voEnable = true) :
    v.sound := by
  obtain ⟨aligned1, aligned2, even, notBoth, message⟩ := h
  rw [VideoOut.sound, base1, base2, pixelStart, reset, mode, enables]
  refine ⟨aligned1, aligned2, even, fun inReset => Bool.eq_false_of_not_eq_true fun on => ?_, message⟩
  exact Bool.false_ne_true ((notBoth inReset).symm.trans (voEnable on))

namespace VideoOut.sound
variable {u : VideoOut} (h : u.sound)
include h

/-- The checks of a write of VO_CTL are what soundness asks of the fields written (U7, U8). -/
theorem writeCtl {w : VoCtlWrite} {v : VideoOut} (hv : u.writeCtl w = .ok v) : v.sound := by
  obtain ⟨aligned1, aligned2, even, -, -⟩ := h
  obtain ⟨resetOk, intensOk, mode, reset, voEnable, enables, -, base1, base2, pixelStart⟩ :=
    VideoOut.writeCtl_eq_ok hv
  rw [VideoOut.sound, mode, reset, voEnable, enables, base1, base2, pixelStart]
  refine ⟨aligned1, aligned2, even, fun inReset => ?_, fun message => ?_⟩
  · simpa [VoCtlWrite.resetOk, inReset] using resetOk
  · simpa [VoCtlWrite.intensOk, message, and_assoc] using intensOk

theorem writeTiming {w : VoTiming} {v : VideoOut} (hv : u.writeTiming w = .ok v) : v.sound := by
  obtain ⟨aligned1, aligned2, -, notBoth, message⟩ := h
  unfold VideoOut.writeTiming at hv
  split at hv
  · rename_i even
    cases hv
    exact ⟨aligned1, aligned2, even, notBoth, message⟩
  · cases hv

theorem bufferEmpty (b : Buffer) : (u.bufferEmpty b).sound := by
  obtain ⟨frame, voEnable⟩ := u.bufferEmpty_frame b
  refine VideoOut.sound_of_sameRegisters h ?_ ?_ ?_ ?_ ?_ ?_ voEnable <;> rw [frame]

theorem clock (m : Memory) : (u.clock m).sound := by
  obtain ⟨frame, voEnable⟩ := u.clock_frame m
  refine VideoOut.sound_of_sameRegisters h ?_ ?_ ?_ ?_ ?_ ?_ voEnable <;> rw [frame]

theorem pixelTime (m : Memory) : (u.pixelTime m).sound := by
  rw [VideoOut.pixelTime_frame u m]
  exact h

theorem imageEmpty (b : Buffer) : (u.imageEmpty b).sound := by
  unfold VideoOut.imageEmpty
  split
  · exact h.bufferEmpty b
  · exact h

theorem endOfField : u.endOfField.sound := by
  unfold VideoOut.endOfField
  split <;> exact h

theorem highwayError : u.highwayError.sound := by
  unfold VideoOut.highwayError
  split <;> exact h

theorem frameEdge : u.frameEdge.sound := by
  unfold VideoOut.frameEdge
  split <;> exact h

end VideoOut.sound

theorem unitEvent_keeps_evo_sound {e : UnitEvent} {s t : State} (h : unitEvent e s = .next t)
    (evo : s.units.evo.sound) : t.units.evo.sound := by
  cases e with
  | evoWriteCtl w =>
    obtain ⟨u, hu, rfl⟩ := orRefuse_eq_next h
    exact evo.writeCtl hu
  | evoWriteTiming w =>
    obtain ⟨u, hu, rfl⟩ := orRefuse_eq_next h
    exact evo.writeTiming hu
  | evoWriteBase1 v =>
    cases h
    obtain ⟨-, others⟩ := evo
    exact ⟨is64Aligned_align64 v, others⟩
  | evoWriteBase2 v =>
    cases h
    obtain ⟨aligned1, -, others⟩ := evo
    exact ⟨aligned1, is64Aligned_align64 v, others⟩
  | evoClock => cases h; exact evo.clock _
  | evoPixel => cases h; exact evo.pixelTime _
  | evoImageEmpty b => cases h; exact evo.imageEmpty b
  | evoEndOfField => cases h; exact evo.endOfField
  | evoHighwayError => cases h; exact evo.highwayError
  | evoFrameEdge => cases h; exact evo.frameEdge
  | viWriteSize | icpLoadTable | icpLoadParameters =>
    obtain ⟨u, -, rfl⟩ := orRefuse_eq_next h
    exact evo
  | _ => cases h; exact evo

/-! ### Image Coprocessor -/

theorem IcpScale.counterAfter_zero (p : IcpScale) : p.counterAfter 0 = startFractionUnits p.startFraction := by
  simp [IcpScale.counterAfter, startFractionUnits]

theorem IcpScale.counterAfter_succ (p : IcpScale) (n : Nat) :
    p.counterAfter (n + 1) = p.counterAfter n + p.increment.toNat := by
  simp only [IcpScale.counterAfter]
  push_cast
  ring

theorem IcpControl.chromaTaken_zero (c : IcpControl) : c.chromaTaken 0 = 0 := by
  simp [IcpControl.chromaTaken]

/-- U and V values are taken once more exactly at a pixel where they are due (R322). -/
theorem IcpControl.chromaTaken_succ (c : IcpControl) (n : Nat) :
    c.chromaTaken (n + 1) = if c.chromaDue n then c.chromaTaken n + 1 else c.chromaTaken n := by
  unfold IcpControl.chromaTaken IcpControl.chromaDue
  cases c.seq422 with
  | false => simp
  | true =>
    rcases Nat.mod_two_eq_zero_or_one n with even | odd
    · simp only [even, if_true, Bool.not_true, Bool.false_or, beq_self_eq_true]
      omega
    · simp only [odd, if_true, Bool.not_true, Bool.false_or, Nat.one_ne_zero, beq_iff_eq, if_false]
      omega

/-- The two alpha registers are the two halves of the Alpha field, whichever of them is the high one (R319, log 32). -/
theorem alphas_of_field (v : BitVec 16) : alphaOne v ++ alphaZero v = v ∨ alphaZero v ++ alphaOne v = v := by
  have halves : v.extractLsb' 8 8 ++ v.extractLsb' 0 8 = v := by
    rw [BitVec.extractLsb'_append_extractLsb'_eq_extractLsb' (show 8 = 0 + 8 from rfl)]
    exact BitVec.extractLsb'_eq_self
  unfold alphaOne alphaZero
  cases Config.alpha1IsHighHalf with
  | true => exact .inl halves
  | false => exact .inr halves

theorem Icp.takeChroma_uCounter (u : Icp) : u.takeChroma.uCounter =
    if (icpControl u.parameters.control).chromaDue u.pixel then u.uCounter + u.parameters.u.increment.toNat
    else u.uCounter := by
  simp only [Icp.takeChroma]
  split <;> rfl

theorem Icp.takeChroma_vCounter (u : Icp) : u.takeChroma.vCounter =
    if (icpControl u.parameters.control).chromaDue u.pixel then u.vCounter + u.parameters.v.increment.toNat
    else u.vCounter := by
  simp only [Icp.takeChroma]
  split <;> rfl

/-- A chroma counter that moves where U and V are due is as many increments from its start as its place says. -/
theorem IcpScale.counterAfter_chromaTaken_succ (p : IcpScale) (c : IcpControl) (n : Nat) :
    p.counterAfter (c.chromaTaken (n + 1)) =
      if c.chromaDue n then p.counterAfter (c.chromaTaken n) + p.increment.toNat
      else p.counterAfter (c.chromaTaken n) := by
  rw [IcpControl.chromaTaken_succ]
  split
  · exact p.counterAfter_succ _
  · rfl

/-- The start of a line puts every counter at its start fraction (R318). -/
theorem Icp.sound_startLine {u : Icp} (listed : (icpControl u.parameters.control).listed = true)
    (alpha : u.alpha1 ++ u.alpha0 = u.parameters.alpha ∨ u.alpha0 ++ u.alpha1 = u.parameters.alpha) (line : Nat) :
    (u.startLine line).sound := by
  simp only [IcpControl.listed, Bool.and_eq_true, decide_eq_true_eq] at listed
  obtain ⟨ofrm, rgb⟩ := listed
  have atStart : ∀ p : IcpScale, startFractionUnits p.startFraction =
      p.counterAfter ((icpControl u.parameters.control).chromaTaken 0) := fun p => by
    rw [IcpControl.chromaTaken_zero, IcpScale.counterAfter_zero]
  exact ⟨ofrm, rgb, alpha, (IcpScale.counterAfter_zero _).symm, atStart _, atStart _⟩

namespace Icp.sound
variable {u : Icp} (h : u.sound)
include h

theorem startLine (line : Nat) : (u.startLine line).sound := by
  obtain ⟨ofrm, rgb, alpha, -⟩ := h
  exact Icp.sound_startLine (by simp [IcpControl.listed, ofrm, rgb]) alpha line

theorem producePixel (m : Memory) : (u.producePixel m).1.sound := by
  obtain ⟨ofrm, rgb, alpha, y, cu, cv⟩ := h
  obtain ⟨parameters, alpha1, alpha0, pixel, yCounter, uCounter, vCounter⟩ := u.producePixel_fields m
  rw [Icp.sound, parameters, alpha1, alpha0, pixel, yCounter, uCounter, vCounter, Icp.takeChroma_uCounter,
    Icp.takeChroma_vCounter, y, cu, cv, IcpScale.counterAfter_succ]
  exact ⟨ofrm, rgb, alpha, rfl, (IcpScale.counterAfter_chromaTaken_succ ..).symm,
    (IcpScale.counterAfter_chromaTaken_succ ..).symm⟩

end Icp.sound

/-- Parameters are loaded with a listed format only (U15), the alpha registers with them. -/
theorem Icp.sound_of_load {u v : Icp} {p : IcpParameters} (h : u.load p = .ok v) : v.sound := by
  unfold Icp.load at h
  split at h
  · rename_i listed
    cases h
    exact Icp.sound_startLine
      (u := { u with parameters := p, alpha1 := alphaOne p.alpha, alpha0 := alphaZero p.alpha, target := p.target })
      listed (alphas_of_field p.alpha) 0
  · cases h

theorem unitEvent_keeps_icp_sound {e : UnitEvent} {s t : State} (h : unitEvent e s = .next t)
    (icp : s.units.icp.sound) : t.units.icp.sound := by
  cases e with
  | icpLoadTable | icpLoadParameters =>
    obtain ⟨u, hu, rfl⟩ := orRefuse_eq_next h
    exact Icp.sound_of_load hu
  | icpStartLine k => cases h; exact icp.startLine k
  | icpPixel => cases h; exact icp.producePixel _
  | viWriteSize | evoWriteCtl | evoWriteTiming =>
    obtain ⟨u, -, rfl⟩ := orRefuse_eq_next h
    exact icp
  | _ => cases h; exact icp

/-! ### PCI-XIO bus -/

theorem Xio.sound_setActive (x : Xio) (on : Bool) : (x.setActive on).sound := nofun

/-- Over the active bus the transfer is the one that is counted, and over an idle one there is none. -/
theorem Xio.sound.transfer {x : Xio} (h : x.sound) (d : XioDirection) (b : Byte) : (x.transfer d b).sound := by
  unfold Xio.transfer
  split
  · rename_i active
    rintro r ⟨⟩
    refine ⟨active, Nat.succ_pos _, ⟨Config.xioLane, Config.xioLane.isLt, byteOf_setByte _ _ b⟩, beq_iff_eq, beq_iff_eq,
      active, rfl, ?_, ?_⟩
    · simp [Xio.parityGenerated, active]
    · simp [Xio.parityChecked, active]
  · exact h

theorem unitEvent_keeps_xio_sound {e : UnitEvent} {s t : State} (h : unitEvent e s = .next t)
    (xio : s.units.xio.sound) : t.units.xio.sound := by
  cases e with
  | xioBegin | xioEnd => cases h; exact Xio.sound_setActive _ _
  | xioTransfer d b => cases h; exact xio.transfer d b
  | viWriteSize | evoWriteCtl | evoWriteTiming | icpLoadTable | icpLoadParameters =>
    obtain ⟨u, -, rfl⟩ := orRefuse_eq_next h
    exact xio
  | _ => cases h; exact xio

theorem step_keeps_unitsSound {s t : State} (h : step s = .next t) (sound : s.unitsSound) : t.unitsSound := by
  obtain ⟨evo, icp, xio⟩ := sound
  exact ⟨step_keeps_units (P := fun u => u.evo.sound) unitEvent_keeps_evo_sound h evo,
    step_keeps_units (P := fun u => u.icp.sound) unitEvent_keeps_icp_sound h icp,
    step_keeps_units (P := fun u => u.xio.sound) unitEvent_keeps_xio_sound h xio⟩

/-- Settles O48, unit by unit. -/
theorem everyStepKeepsUnitsAligned : Obligations.EveryStepKeepsUnitsAligned :=
  ⟨fun _ _ aligned h => step_keeps_unitsAligned h aligned, fun _ _ sound h => step_keeps_unitsSound h sound⟩

end Sys2Proof.Machine
end

section
/-! PROOFS for 70_reset_and_hazards.md: the step of an instruction of one operation (R352), results that are issued (R55,
R353, R355) and that are due (R175, R350), and the slave CCCOUNT (R46, R341, R357). -/

namespace Sys2Proof.Machine

/-! ### An instruction of one operation -/

theorem operationsOf_singleton {r : OpRecord} {i : Instr} (hd : decode r = .ok i) : operationsOf [r] = [i] := by
  simp [operationsOf, hd, Except.toOption]

theorem instructionWf_singleton {c : Config} {n : Nat} {i : Instr} (wf : i.wf c n = true) :
    instructionWf c n [i] = true :=
  instructionWf_iff.2 ⟨by simp, by simp [slotsDistinct], by simpa using wf⟩

theorem checkInstruction_singleton {c : Config} {n : Nat} {r : OpRecord} {i : Instr} (hd : decode r = .ok i)
    (wf : i.wf c n = true) : checkInstruction c n [r] = .ok [i] := by
  have ops := operationsOf_singleton hd
  rw [checkInstruction_of_wf (by simp [hd]) (by rw [ops]; exact instructionWf_singleton wf), ops]

theorem execOperations_singleton (i : Instr) (s : State) :
    execOperations [i] s = andThen (exec i s) fun t => .next { t with draws := t.draws + 1 } := by
  rw [execOperations, execOperation]
  cases exec i s <;> rfl

/-- Settles O7: an instruction of one well-formed operation is admitted, and that operation is all it runs. -/
theorem stepRunsTheDecodedOperation : Obligations.StepRunsTheDecodedOperation := by
  intro s r i turn hf hd wf
  rw [step_of_fetch turn hf, executeInstruction_of_ok (checkInstruction_singleton hd wf), execOperations_singleton]
  cases exec i (s.prepare [i]) <;> rfl

/-! ### The word placed for the fetch -/

theorem getElem?_placeInstruction (p : List (List OpRecord)) (k : Nat) (recs : List OpRecord) :
    (placeInstruction p k recs)[k]? = some recs := by
  have before : (p.take k ++ List.replicate (k - p.length) ([] : List OpRecord)).length = k := by
    simp only [List.length_append, List.length_take, List.length_replicate]
    omega
  rw [placeInstruction, List.getElem?_append_right before.le, before, Nat.sub_self, List.getElem?_cons_zero]

@[simp] theorem State.withFetchWord_fetch (s : State) (n w : Nat) :
    (s.withFetchWord n w).fetch = some [recordOfWord n w] :=
  getElem?_placeInstruction _ _ _

theorem State.withFetchWord_onTurn (s : State) (n w : Nat) : (s.withFetchWord n w).onTurn := ⟨rfl, rfl⟩

/-- The packed word of a well-formed operation stands for a record of it (log 17). -/
theorem decode_recordOfWord_encodeWord {c : Config} {n : Nat} {i : Instr} (wf : i.wf c n = true) (hn : n ≤ 2 ^ 16) :
    decode (recordOfWord recordBits (encodeWord i)) = .ok i := by
  rw [encodeWord, ((Instr.fieldsOk_of_wf wf).packable hn).recordOfWord_pack, decode_encode]

/-- Settles O8: the word is fetched and decodes to the operation, and then the step is that of O7. -/
theorem stepRunsTheWordPlaced : Obligations.StepRunsTheWordPlaced := by
  intro s i few wf
  exact stepRunsTheDecodedOperation _ _ i (s.withFetchWord_onTurn _ _) (s.withFetchWord_fetch _ _)
    (decode_recordOfWord_encodeWord wf few) wf

/-! ### Results that are issued -/

theorem State.inFlight_eq_false_iff {s : State} {d : RegNo} :
    s.inFlight d = false ↔ ∀ p ∈ s.pending, p.dest ≠ d := by
  simp [State.inFlight]

theorem State.inFlight_iff {s : State} {d : RegNo} : s.inFlight d = true ↔ ∃ p ∈ s.pending, p.dest = d := by
  simp [State.inFlight]

/-- Settles O31: the register has no other result in flight. -/
theorem uncontestedResultIsIssued : Obligations.UncontestedResultIsIssued := by
  intro s d l v f alone
  have free : s.inFlight d = false := State.inFlight_eq_false_iff.2 alone
  simp [State.issue, free, State.resultRecord]

theorem InFlight.contest_value (n : Nat) (d : RegNo) (p : InFlight) :
    (p.contest n d).value = if p.dest = d then Config.contestedResult n p.issued p.value else p.value := by
  unfold InFlight.contest
  split <;> rfl

/-- Settles O32: each of the results in flight, the new one last, is contested for the register. -/
theorem contestedResultsBecomeFree : Obligations.ContestedResultsBecomeFree := by
  intro s d l v f contended
  refine ⟨(s.pending ++ [s.resultRecord d l v f]).map (InFlight.contest s.draws d), ?_, ?_⟩
  · simp [State.issue, State.inFlight_iff.2 contended]
  · rw [List.forall₂_map_right_iff]
    exact List.forall₂_same.2 fun p _ => ⟨p.contest_due .., p.contest_dest .., p.contest_flags .., p.contest_value ..⟩

/-! ### Results that are due -/

theorem State.commit_pcsw (s : State) :
    s.commit.pcsw = s.pcsw.orFlags (flagsOf (s.pending.filter fun p => p.due == s.ip)) :=
  s.commitResults_pcsw _

/-- Step 1 of R352 sets every flag that a result due carries (R175). -/
theorem State.commit_sets_flags {s : State} {p : InFlight} (hp : p ∈ s.pending) (due : p.due = s.ip) :
    (p.flags.ifz = true → s.commit.pcsw.ifz = true) ∧ (p.flags.inx = true → s.commit.pcsw.inx = true) ∧
      (p.flags.inv = true → s.commit.pcsw.inv = true) := by
  have mem : p ∈ s.pending.filter fun q => q.due == s.ip := List.mem_filter.2 ⟨hp, beq_iff_eq.2 due⟩
  have carried : ∀ flag : InFlight → Bool, flag p = true → (s.pending.filter fun q => q.due == s.ip).any flag = true :=
    fun flag set => List.any_eq_true.2 ⟨p, mem, set⟩
  rw [State.commit_pcsw]
  exact ⟨fun set => Bool.or_inr (carried _ set), fun set => Bool.or_inr (carried _ set),
    fun set => Bool.or_inr (carried _ set)⟩

/-- The operations of an instruction clear nothing of PCSW that step 1 of R352 has set. -/
theorem step_pcsw_of_fetch {s t : State} {recs : List OpRecord} (turn : s.onTurn) (hf : s.fetch = some recs)
    (h : step s = .next t) : s.commit.pcsw.Grows t.pcsw := by
  obtain ⟨u, -, hu, rfl⟩ := step_of_fetch_eq_next turn hf h
  exact (execOperations_pcsw_grows hu).1

theorem step_fileReg_of_fetch {s t : State} {recs : List OpRecord} (turn : s.onTurn) (hf : s.fetch = some recs)
    (h : step s = .next t) (r : RegNo) : t.fileReg r = s.commit.fileReg r := by
  rw [State.fileReg, step_regs_of_fetch turn hf h, State.fileReg]

/-- Settles O33: step 1 of R352 writes the result and its flags, and the rest of the instruction keeps them. -/
theorem resultsReachTheirRegisterWhenDue : Obligations.ResultsReachTheirRegisterWhenDue := by
  intro s t recs p turn hf hstep hp due lt alone
  have grows := step_pcsw_of_fetch turn hf hstep
  obtain ⟨ifz, inx, inv⟩ := State.commit_sets_flags hp due
  refine ⟨?_, grows.ifz ∘ ifz, grows.inx ∘ inx, grows.inv ∘ inv⟩
  rw [step_fileReg_of_fetch turn hf hstep]
  exact State.fileReg_commit_of_due hp due lt fun q hq _ => alone q hq

theorem State.fileReg_commit_of_not_due {s : State} {r : RegNo} (h : ∀ p ∈ s.pending, p.due = s.ip → p.dest ≠ r) :
    s.commit.fileReg r = s.fileReg r := by
  refine State.fileReg_commitResults_eq (s := s) rfl fun p hp dest => ?_
  obtain ⟨mem, due⟩ := List.mem_filter.1 hp
  exact absurd dest (h p mem (beq_iff_eq.1 due))

/-- Settles O34: what an instruction leaves in a register is what step 1 of R352 leaves in it. -/
theorem registersWithoutResultDueAreUnchanged : Obligations.RegistersWithoutResultDueAreUnchanged := by
  intro s t recs r turn hf hstep notDue
  rw [step_fileReg_of_fetch turn hf hstep, State.fileReg_commit_of_not_due notDue]

/-! ### The slave CCCOUNT -/

/-- Settles O46: both counters are 0. -/
theorem resetSamplesCccount : Obligations.ResetSamplesCccount := ⟨rfl, rfl⟩

theorem step_cccountSlave {s t : State} (h : step s = .next t) : t.cccountSlave = s.cccountSlave := by
  rcases step_cases h with ⟨e, rest, u, -, he, rfl⟩ | ⟨-, -, rfl⟩ | ⟨-, -, rfl⟩ | ⟨recs, ops, u, -, -, -, he, rfl⟩
  · rw [unitEvent_frame he]
    rfl
  · rfl
  · exact s.drain_cccountSlave
  · rw [State.advance_cccountSlave, execOperations_frame he, State.prepare_cccountSlave]

/-- Settles O49: `cycles` issues the low word of the slave CCCOUNT (R140), which no step changes. -/
theorem slaveCccountNeverChanges : Obligations.SlaveCccountNeverChanges := by
  intro s t h
  have same := step_cccountSlave h
  refine ⟨same, fun d k => ?_⟩
  rw [← same]
  exact exec_of_guard_true (i := .cycles none d k) rfl rfl rfl rfl

end Sys2Proof.Machine
end
